-- ==== Sys2Proof/Word.lean ====
section
/-! DEFINITION. The three number types of the RDM-44: the 16-bit word of the store and of the link lines, the byte of
the host line, and the digest modulo 65537 (R44). -/

namespace Sys2Proof

/-- A word: an unsigned 16-bit value, 0 to 65535 (00, Terms). -/
abbrev Word := BitVec 16

/-- A byte of a host frame (R186). -/
abbrev Byte := BitVec 8

/-- A digest, 0 to 65536, whose arithmetic is modulo the prime 65537 (R44, R55). -/
abbrev Digest := Fin 65537

end Sys2Proof
end

