-- ==== Sys2Proof/Syntax.lean ====
section
/-! DEFINITION. The commands of the RDM-44: one constructor of `Instr` per row of spec/opcode_table.json. The table
gives its rows no operands; the operands are those of the rule each row names, in the widths of R187 (log 36). A request
row carries the host's tag (R178). -/

namespace Sys2Proof

/-- The two lane link ports (R155). -/
inductive LinkPort where
  | u
  | v
  deriving DecidableEq, Repr

/-- The values of one CONFIG-LANE request, as given (R180, R187). -/
structure LaneValues where
  lane        : Nat
  window      : Nat
  deadline    : Nat
  missLimit   : Nat
  halfPeriod  : Nat
  pace        : Nat
  retire      : Nat
  finalLimit  : Nat
  burst       : Nat
  linkTimeout : Nat
  serveEnable : Nat
  deriving DecidableEq, Repr

/-- The commands, in the order of the opcode table. -/
inductive Instr where
  /-- POWER_ON (R18). -/
  | powerOn
  /-- START_UP_SWEEP_END (R18). -/
  | startUpSweepEnd
  /-- RESTART_INPUT (R128). -/
  | restartInput
  /-- ONE_BIT_DISTURBANCE of one word of the store (R2). -/
  | oneBitDisturbance (frame offset : Nat)
  /-- SILENT_DISTURBANCE of one word of the store, and the stored value it leaves (R3). -/
  | silentDisturbance (frame offset : Nat) (value : Word)
  /-- HOST_FRAME_CHECK: the bytes arrive on HP-RX, and each frame they complete or cut off is checked (R175). -/
  | hostFrameCheck (bytes : List Byte)
  /-- HOST_FRAME_CUT_OFF: 10 ms of quiet on HP-RX (R175). -/
  | hostFrameCutOff
  /-- REPLY_END (R174). -/
  | replyEnd
  /-- STATUS (R179). -/
  | status (tag : Nat)
  /-- CONFIG_LANE (R180). -/
  | configLane (tag : Nat) (values : LaneValues)
  /-- CONFIG_REGION, the defining form, with the class as its code (R22, R187). -/
  | configRegion (tag id firstPage pageCount classCode seed : Nat)
  /-- CONFIG_REGION_CLEAR (R23). -/
  | configRegionClear (tag id : Nat)
  /-- OPEN_COLD (R117). -/
  | openCold (tag : Nat)
  /-- OPEN_JOIN (R117). -/
  | openJoin (tag : Nat)
  /-- OPEN_MAPPING_END (R30). -/
  | openMappingEnd
  /-- OPEN_COLD_ZERO_FILL_WRITE: the next word of the page named (R17; log 14). -/
  | openColdZeroFillWrite (page : Nat)
  /-- OPEN_COLD_COMPLETION (R118). -/
  | openColdCompletion
  /-- STOP (R123). -/
  | stop (tag : Nat)
  /-- READ (R182). -/
  | read (tag address count : Nat)
  /-- HOST_READ_WORD (R183). -/
  | hostReadWord
  /-- WRITE, with the count as given and the words carried (R182). -/
  | write (tag address count : Nat) (words : List Word)
  /-- HOST_WRITE_WORD (R183). -/
  | hostWriteWord
  /-- FILL (R16). -/
  | fill (tag page : Nat) (value : Word)
  /-- ADOPT (R50). -/
  | adopt (tag region : Nat)
  /-- CYCLE_CLOSE (R94). -/
  | cycleClose (tag cycle : Nat)
  /-- GATE_READ (R82). -/
  | gateRead
  /-- LOCK_ADVANCE (R81). -/
  | lockAdvance
  /-- LOCK_ARM, with the mode as its code and the gate absent where the request gives none (R74, R187). -/
  | lockArm (tag index modeCode : Nat) (gate : Option Nat) (preset : Nat)
  /-- LOCK_CANCEL (R77). -/
  | lockCancel (tag index : Nat)
  /-- LOCK_READ (R79). -/
  | lockRead (tag first count : Nat)
  /-- TAKE (R169). -/
  | take (tag : Nat)
  /-- DONE_CLASS (R170). -/
  | doneClass (tag cls : Nat)
  /-- DONE_NO_CLASS (R170). -/
  | doneNoClass (tag : Nat)
  /-- MASK, with the set as its byte, class k in bit k (R172, R187). -/
  | mask (tag : Nat) (set : Byte)
  /-- PRIORITY_FIXED (R171). -/
  | priorityFixed (tag : Nat)
  /-- PRIORITY_ROTATING (R171). -/
  | priorityRotating (tag : Nat)
  /-- PRIORITY_SET_LOWEST (R171). -/
  | prioritySetLowest (tag cls : Nat)
  /-- FRAMES (R184). -/
  | frames (tag first count : Nat)
  /-- POISON (R184). -/
  | poison (tag : Nat)
  /-- RESTART (R185). -/
  | restart (tag : Nat)
  /-- PATROL_STEP (R60). -/
  | patrolStep
  /-- MOVE_TAKE (R34). -/
  | moveTake
  /-- MOVE_STEP (R35). -/
  | moveStep
  /-- WINDOW_EXPIRY (R105). -/
  | windowExpiry
  /-- DEADLINE_EXPIRY (R122). -/
  | deadlineExpiry
  /-- HALF_PERIOD_EXPIRY (R130). -/
  | halfPeriodExpiry
  /-- LINK_FRAME_CHECK: the words arrive on the receive line, and each frame they complete is checked (R161). -/
  | linkFrameCheck (port : LinkPort) (words : List Word)
  /-- LINK_RECEIVE_CUT_OFF: 1 ms of quiet on the receive line (R161). -/
  | linkReceiveCutOff (port : LinkPort)
  /-- SILENCE_TIMER_EXPIRY (R148). -/
  | silenceTimerExpiry
  /-- SEND_STEP (R137). -/
  | sendStep
  /-- FINAL_SEND_STEP (R142). -/
  | finalSendStep
  /-- LOCK_IMAGE_QUEUED (R142). -/
  | lockImageQueued
  /-- SYNC_MARK_QUEUED (R142). -/
  | syncMarkQueued
  /-- TRANSMIT_END (R159). -/
  | transmitEnd (port : LinkPort)
  /-- IDLE_FILL (R160). -/
  | idleFill (port : LinkPort)
  /-- LINK_TIMEOUT (R163). -/
  | linkTimeout (port : LinkPort)
  deriving DecidableEq, Repr

end Sys2Proof
end

