-- ==== Sys2Proof/Config.lean ====
section
/-! DEFINITION. What the part fixes (its capacities and limits, 00 and the chapters) and its one free value. -/

namespace Sys2Proof.Config

/-- Physical frames of the store (R1). -/
def frameCount : Nat := 128

/-- Words in a frame, and in a page (R1, R20). -/
def pageWords : Nat := 256

/-- Words of the whole store (R1). -/
def storeWords : Nat := 32768

/-- Logical pages (R20). -/
def pageCount : Nat := 120

/-- Logical addresses, 0 to 30719 (R20). -/
def addressCount : Nat := 30720

/-- Entries of the poison list (R12). -/
def poisonCapacity : Nat := 32

/-- Entries of the move queue (R33). -/
def moveQueueCapacity : Nat := 8

/-- Time-lock records (R72). -/
def lockCount : Nat := 48

/-- Before-image slots (R134). -/
def slotCount : Nat := 4

/-- Frames of a control transmit queue (R155). -/
def controlCapacity : Nat := 4

/-- Frames of a bulk transmit queue (R155). -/
def bulkCapacity : Nat := 2

/-- Entries of the owed list (R177). -/
def owedCapacity : Nat := 16

/-- JOIN-ASKs of one OPEN JOIN (R153). -/
def attemptLimit : Nat := 4

/-- The convergence limit, in donor cycle closes (R143). -/
def convergenceLimit : Nat := 32

/-- The greatest cycle number (R94). -/
def maxCycle : Nat := 4294967295

/-- FREE VALUE (log 6, DESIGN CHOICE): how many further words the start-up sweep has written when the k-th event that
depends on it strikes. R18 bounds the sweep's rate from below only, so nothing is known of it. -/
opaque sweepAdvance : Nat → Nat

end Sys2Proof.Config
end

