-- ==== Sys2Proof/Machine/State.lean ====
section
/-! DEFINITION. The state of the RDM-44, block by block (00, Block overview), as plain data, and its value right after
the application of power. -/

namespace Sys2Proof.Machine

/-! ### The protected store (chapter 1) -/

/-- The check state of a word with its stored value (R1). A DOUBLE word has no stored value: none is recoverable (R2). -/
inductive Content where
  | clean (stored : Word)
  | single (stored : Word)
  | double
  deriving DecidableEq, Repr

/-- One word of the store: its written value, and its stored value with its check state (R1). -/
structure Cell where
  written : Word
  content : Content
  deriving DecidableEq, Repr

/-- The word as the start-up sweep leaves it: written 0, stored 0, CLEAN (R18). -/
def Cell.zero : Cell := ⟨0, .clean 0⟩

/-- The words of the store by key, frame x 256 + offset, in canonical form (`Memory.wf`); an unlisted key reads as
`Cell.zero` (log 9). -/
abbrev Memory := List (Nat × Cell)

/-- The source code of an access (1.2, R188). -/
inductive StoreSource where
  | read | write | fill | zero | patrol | move | gate | send | capture | landing
  deriving DecidableEq, Repr

/-- An entry of the poison list (R12). -/
structure PoisonEntry where
  address : Nat
  source  : StoreSource
  cycle   : Nat
  deriving DecidableEq, Repr

/-! ### The map unit (chapter 2) -/

/-- The class of a region (R21). -/
inductive RegionClass where
  | vital | lane
  deriving DecidableEq, Repr

/-- The state of a region (R24). -/
inductive RegionState where
  | clean | incomplete | suspect
  deriving DecidableEq, Repr

/-- A defined region record (R21). -/
structure Region where
  first : Nat
  count : Nat
  cls   : RegionClass
  seed  : Nat
  live  : Digest
  state : RegionState
  deriving DecidableEq, Repr

/-- A page map entry (R25). In MOVING `frame` is the old frame and `second` the new one. -/
inductive PageEntry where
  | unmapped
  | active (frame : Nat)
  | restoring (frame : Nat)
  | poisoned (frame : Nat)
  | moving (frame second cursor : Nat) (poisonedMark restoringMark : Bool)
  deriving DecidableEq, Repr

/-- The state of a frame (R27). -/
inductive FrameState where
  | free | inUse | retired
  deriving DecidableEq, Repr

/-- A frame record of the pool, with the store's correctable count (R27, R7). -/
structure FrameRecord where
  state : FrameState
  count : Nat
  worn  : Bool
  page  : Option Nat
  deriving DecidableEq, Repr

/-- A FREE frame of count 0. -/
def FrameRecord.fresh : FrameRecord := ⟨.free, 0, false, none⟩

/-! ### The patrol unit (chapter 4) -/

/-- The record of the pass under way (R56). -/
structure Pass where
  region  : Nat
  cursor  : Nat
  acc     : Digest
  spoiled : Bool
  deriving DecidableEq, Repr

/-- The patrol unit; WAITING is a pass of `none` (R56). -/
structure Patrol where
  walk : Option Nat
  pass : Option Pass
  deriving DecidableEq, Repr

/-! ### The lock table (chapter 5) -/

/-- The state of a lock record (R72). -/
inductive LockState where
  | idle | running | expired
  deriving DecidableEq, Repr

/-- The mode of a lock record (R72). -/
inductive LockMode where
  | plain | pause | rearm
  deriving DecidableEq, Repr

/-- The fields of a lock record that a lock image carries (R72, R89). -/
structure LockTimer where
  state     : LockState
  mode      : Option LockMode
  gate      : Option Nat
  preset    : Nat
  pending   : Option Nat
  remaining : Int
  overrange : Bool
  deriving DecidableEq, Repr

/-- The IDLE row of R72. -/
def LockTimer.idle : LockTimer := ⟨.idle, none, none, 0, none, 0, false⟩

/-- A lock record: its timer, and its release fields, which do not depend on the state (R72). -/
structure LockRecord where
  timer       : LockTimer
  release     : Option Int
  overwritten : Bool
  deriving DecidableEq, Repr

/-- A record as R91 sets it. -/
def LockRecord.cleared : LockRecord := ⟨.idle, none, false⟩

/-- The lock advance under way: the cycle being closed, the gate addresses still to read, and the values read (R81,
R82). -/
structure Advance where
  cycle  : Nat
  toRead : List Nat
  values : List (Nat × Word)
  deriving DecidableEq, Repr

/-! ### The vote unit (chapter 6) -/

/-- A closing digest list: entries (region id, digest), the last of id 16 (R97). -/
abbrev DigestList := List (Nat × Digest)

/-- The vote state (R92). -/
inductive VoteState where
  | none | opened | decided
  deriving DecidableEq, Repr

/-- The verdict of a vote (R108). -/
inductive Verdict where
  | agreed | peerDivergent | outvoted | noMajority | alone
  deriving DecidableEq, Repr

/-- The last verdict record (R92). -/
structure VerdictRecord where
  cycle        : Nat
  verdict      : Verdict
  participants : Nat
  odd          : Option Nat
  deriving DecidableEq, Repr

/-- The vote unit's own fields; the window timer is the instant at which it runs out (R92; log 1). -/
structure VoteUnit where
  lastClosed  : Nat
  state       : VoteState
  ownList     : Option DigestList
  window      : Option Nat
  lastVerdict : Option VerdictRecord
  deriving DecidableEq, Repr

/-- The state of a peer record (R93). -/
inductive PeerState where
  | absent | present | divergent | joining
  deriving DecidableEq, Repr

/-- A DIGEST held in an early slot (R93, R99). -/
structure EarlyDigest where
  cycle     : Nat
  confirmed : Bool
  list      : DigestList
  deriving DecidableEq, Repr

/-- A peer record, held under the port that reaches the peer (R93). -/
structure PeerRecord where
  state            : PeerState
  lastCycle        : Nat
  confirmed        : Bool
  miss             : Nat
  held             : Option DigestList
  early            : Option EarlyDigest
  earlyOverwritten : Bool
  late             : Nat
  deriving DecidableEq, Repr

/-- A peer record after power-on (R114). -/
def PeerRecord.cleared : PeerRecord := ⟨.absent, 0, false, 0, none, none, false, 0⟩

/-! ### The lane controller and the health generator (chapter 7) -/

/-- The lane mode (R115). -/
inductive LaneMode where
  | offline | joining | service | stopped
  deriving DecidableEq, Repr

/-- The cause of an entry to STOPPED (R115). -/
inductive StopCause where
  | host | outvoted | noMajority | alone | deadline | store | silent | joinFailed
  deriving DecidableEq, Repr

/-- The lane controller; the mode is absent during the start-up sweep, and the deadline timer is the instant at which
it runs out (R115; log 1). -/
structure LaneController where
  mode      : Option LaneMode
  confirmed : Bool
  stopCause : Option StopCause
  deadline  : Option Nat
  deriving DecidableEq, Repr

/-- The phase of the health waves (R129). -/
inductive WavePhase where
  | aHigh | aLow
  deriving DecidableEq, Repr

/-- The waves while RUNNING: phase, half-period in effect, and the instant of the next toggle (R129; log 1). -/
structure Wave where
  phase    : WavePhase
  half     : Nat
  toggleAt : Nat
  deriving DecidableEq, Repr

/-- The health generator; REST is a wave of `none` (R129). -/
structure Health where
  wave     : Option Wave
  degraded : Bool
  deriving DecidableEq, Repr

/-! ### The transfer engine (chapter 8) -/

/-- A decline or abort reason, or the reason of a RESTORE detail (8.1, R188). -/
inductive RestoreReason where
  | notEnabled | notServing | busyServing | notAgreed | mismatch | donorSilent | stale | noConvergence | donorLeft
  | linkDown | askedAgain
  deriving DecidableEq, Repr

/-- The state of a serve that is not IDLE (R134). -/
inductive ServePhase where
  | bulk | final
  deriving DecidableEq, Repr

/-- The page in send: page, next offset, and whether its source is its slot (R134). -/
structure InSend where
  page     : Nat
  next     : Nat
  fromSlot : Bool
  deriving DecidableEq, Repr

/-- A before-image slot in use (R134). -/
structure Slot where
  page  : Nat
  words : List Word
  deriving DecidableEq, Repr

/-- The serve record while serving; IDLE is a serve record of `none` (R134). Page sets are strictly ascending lists.
`finalCycle` and `lockImageQueued` hold what R142 needs beyond R134's table (log 29). -/
structure Serve where
  receiver        : LinkPort
  phase           : ServePhase
  dirty           : List Nat
  sentOnce        : List Nat
  cursor          : Nat
  inSend          : Option InSend
  pendingCycle    : Option Nat
  finalSet        : List Nat
  fullySent       : List Nat
  slots           : List Slot
  lockImage       : Option (List LockTimer)
  keptList        : Option DigestList
  finalCycle      : Nat
  lockImageQueued : Bool
  convergence     : Nat
  deriving DecidableEq, Repr

/-- The state of a join record (R145). -/
inductive JoinPhase where
  | waiting | asked | landing
  deriving DecidableEq, Repr

/-- The join record (R145); the silence timer is the instant at which it runs out (log 1). -/
structure Join where
  phase         : JoinPhase
  attempts      : Nat
  heardU        : Bool
  heardV        : Bool
  candidate     : Option LinkPort
  silence       : Option Nat
  landed        : List Nat
  offsets       : Vector (Option Nat) 120
  lockImageTaken : Bool
  deriving DecidableEq, Repr

/-! ### The lane links (chapter 9) -/

/-- What a link frame carries, by kind (R188). -/
inductive LinkBody where
  | digest (cycle : Nat) (confirmed : Bool) (list : DigestList)
  | joinAsk
  | joinOffer (pages : Nat)
  | joinDecline (reason : RestoreReason)
  | joinAbort (reason : RestoreReason)
  | page (page offset : Nat) (words : List Word)
  | lockImage (timers : List LockTimer)
  | syncMark (cycle : Nat) (list : DigestList)
  | idleFill
  deriving DecidableEq, Repr

/-- A link frame to send, with the lane number it was built with (R165, R188). -/
structure LinkFrame where
  sender : Nat
  body   : LinkBody
  deriving DecidableEq, Repr

/-- Where the frame leaving came from (R155). -/
inductive LinkQueue where
  | control | bulk | fill
  deriving DecidableEq, Repr

/-- A lane link controller (R155). The link timer is the instant at which it runs out; the idle timer is counted from
`idleFrom` (log 1). -/
structure Link where
  up       : Bool
  timer    : Option Nat
  errors   : Nat
  control  : List LinkFrame
  bulk     : List LinkFrame
  leaving  : Option (LinkFrame × LinkQueue)
  rx       : List Word
  idleFrom : Nat
  deriving DecidableEq, Repr

/-- A link controller after power-on (R165). -/
def Link.cleared : Link := ⟨false, none, 0, [], [], none, [], 0⟩

/-! ### The attention controller (chapter 10) -/

/-- The eight fault classes (10.1). -/
inductive FaultClass where
  | vote | store | restore | lock | link | patrol | retire | port
  deriving DecidableEq, Repr

/-- The role of a RESTORE detail (8.1). -/
inductive RestoreRole where
  | donor | receiver
  deriving DecidableEq, Repr

/-- The outcome of a RESTORE detail (8.1). -/
inductive RestoreOutcome where
  | accepted | declined | served | aborted | failed | joined
  deriving DecidableEq, Repr

/-- The event of a LOCK detail (R86, R87). -/
inductive LockEvent where
  | expired | overrange
  deriving DecidableEq, Repr

/-- The reason of a LINK detail (10.1). -/
inductive LinkReason where
  | checkFail | down | up | late | earlyOverwritten | absent
  deriving DecidableEq, Repr

/-- The outcome of a PATROL detail (R65, R66). -/
inductive PatrolOutcome where
  | silent | suspect
  deriving DecidableEq, Repr

/-- The outcome of a RETIRE detail (10.1). -/
inductive RetireOutcome where
  | retired | sparesExhausted | abandoned
  deriving DecidableEq, Repr

/-- The reason of a PORT detail (10.1). -/
inductive PortReason where
  | badFrame | busy
  deriving DecidableEq, Repr

/-- A detail record, by class (10.1, R126, R8). -/
inductive Detail where
  | vote (cycle : Nat) (verdict : Option Verdict) (participants odd : Option Nat) (cause : Option StopCause)
  | store (address : Option Nat) (region : Nat) (cls : RegionClass) (source : StoreSource)
  | restore (role : RestoreRole) (outcome : RestoreOutcome) (reason : Option RestoreReason) (cycle : Nat)
  | lock (index : Nat) (event : LockEvent)
  | link (peer : Nat) (reason : LinkReason)
  | patrol (region : Nat) (outcome : PatrolOutcome)
  | retire (frame page : Nat) (outcome : RetireOutcome)
  | port (reason : PortReason)
  deriving DecidableEq, Repr

/-- The record of one class (R166). -/
structure ClassRecord where
  pending   : Bool
  masked    : Bool
  inService : Bool
  count     : Nat
  detail    : Option Detail
  deriving DecidableEq, Repr

/-- A class record after a reset (R173). -/
def ClassRecord.cleared : ClassRecord := ⟨false, false, false, 0, none⟩

/-- The attention controller: the class records by class number, the priority mode and lowest class (R166), and the
ATTN output (R168). -/
structure Attention where
  classes  : Vector ClassRecord 8
  rotating : Bool
  lowest   : Nat
  attn     : Bool
  deriving DecidableEq, Repr

/-- The attention controller after a reset (R173). -/
def Attention.cleared : Attention := ⟨Vector.replicate 8 ClassRecord.cleared, false, 7, false⟩

/-! ### The host port (chapter 11) -/

/-- The outcome code of a reply (R178). -/
inductive ReplyOutcome where
  | ok | badFrame | badKind | badLength | badArgument | wrongMode | wrongState | notMapped | unreadable | noFrames
  | outOfOrder | cycleLimit | notInService | busy | stopped
  deriving DecidableEq, Repr

/-- What a frame on HP-TX is to the port: the reply of the request in service, an answer of the owed list, or an answer
that the port owes nothing more for. -/
inductive AnswerRole where
  | reply | owed | plain
  deriving DecidableEq, Repr

/-- A reply or answer (R178, R186). -/
structure Answer where
  role    : AnswerRole
  kind    : Nat
  tag     : Nat
  outcome : ReplyOutcome
  payload : List Byte
  deriving DecidableEq, Repr

/-- An entry of the owed list (R174), with the kind byte its answer echoes and whether the reply it waited behind has
gone out (log 10). -/
structure OwedAnswer where
  kind    : Nat
  tag     : Nat
  outcome : ReplyOutcome
  due     : Bool
  deriving DecidableEq, Repr

/-- The request in service (R174): kind and tag, and the request itself until its owning block has it (log 3). -/
structure InService where
  kind   : Nat
  tag    : Nat
  handed : Option Instr
  deriving DecidableEq, Repr

/-- The host port; IDLE is a service of `none` (R174). `ready` holds the answers that wait for the line (R178). -/
structure HostPort where
  service : Option InService
  owed    : List OwedAnswer
  line    : Option Answer
  ready   : List Answer
  rx      : List Byte
  deriving DecidableEq, Repr

/-- The host port after power-on (R174). -/
def HostPort.cleared : HostPort := ⟨none, [], none, [], []⟩

/-- The lane configuration as applied (R180). -/
structure LaneConfig where
  lane        : Nat
  window      : Nat
  deadline    : Nat
  missLimit   : Nat
  halfPeriod  : Nat
  pace        : Nat
  retire      : Nat
  finalLimit  : Nat
  burst       : Nat
  linkTimeout : Nat
  serveEnable : Bool
  deriving DecidableEq, Repr

/-- The defaults of R180. -/
def LaneConfig.default : LaneConfig := ⟨0, 100, 1500, 3, 10, 8, 4, 4, 32, 1000, true⟩

/-! ### Requests under way -/

/-- The kind of an OPEN (R117). -/
inductive OpenKind where
  | cold | join
  deriving DecidableEq, Repr

/-- How far an OPEN has come: mapping, or zero-filling with the pages left and the next offset of each (R118). -/
inductive OpenPhase where
  | mapping
  | filling (left : List (Nat × Nat))
  deriving DecidableEq, Repr

/-- The OPEN under way, and the pages its mapping allocated (R118, R119). -/
structure Opening where
  kind      : OpenKind
  phase     : OpenPhase
  allocated : Nat
  deriving DecidableEq, Repr

/-- The READ or WRITE under way: its next address, the words left, and the words delivered or the count written
(R183). -/
inductive HostRun where
  | reading (next left : Nat) (delivered : List Word)
  | writing (next : Nat) (left : List Word) (done : Nat)
  deriving DecidableEq, Repr

/-! ### The whole part -/

/-- The state of the part. -/
structure State where
  /-- commands that wait, first in first out -/
  pending    : List Instr
  /-- the timebase in ms (00; log 1) -/
  time       : Nat
  /-- words the start-up sweep has written, none when it is done (R18) -/
  sweep      : Option Nat
  /-- the MODEL's own: free values drawn so far (log 6) -/
  freeCount  : Nat
  mem        : Memory
  poison     : List PoisonEntry
  regions    : Vector (Option Region) 16
  pages      : Vector PageEntry 120
  frames     : Vector FrameRecord 128
  moveQueue  : List Nat
  /-- the move engine: idle, or moving this page (R34) -/
  moving     : Option Nat
  patrol     : Patrol
  locks      : Vector LockRecord 48
  advance    : Option Advance
  vote       : VoteUnit
  peerU      : PeerRecord
  peerV      : PeerRecord
  lane       : LaneController
  health     : Health
  serve      : Option Serve
  join       : Option Join
  linkU      : Link
  linkV      : Link
  attention  : Attention
  port       : HostPort
  config     : LaneConfig
  opening    : Option Opening
  run        : Option HostRun
  /-- a warm restart waits for a mapping, an ADOPT or a lock advance to end (R128; log 19) -/
  restartDue : Bool
  deriving DecidableEq, Repr

/-- The part right after the application of power: every block at its power-on state, and the start-up sweep at its
first word (R18; log 8). -/
def State.reset : State where
  pending    := []
  time       := 0
  sweep      := some 0
  freeCount  := 0
  mem        := []
  poison     := []
  regions    := Vector.replicate 16 none
  pages      := Vector.replicate 120 .unmapped
  frames     := Vector.replicate 128 FrameRecord.fresh
  moveQueue  := []
  moving     := none
  patrol     := ⟨none, none⟩
  locks      := Vector.replicate 48 LockRecord.cleared
  advance    := none
  vote       := ⟨0, .none, none, none, none⟩
  peerU      := PeerRecord.cleared
  peerV      := PeerRecord.cleared
  lane       := ⟨none, false, none, none⟩
  health     := ⟨none, false⟩
  serve      := none
  join       := none
  linkU      := Link.cleared
  linkV      := Link.cleared
  attention  := Attention.cleared
  port       := HostPort.cleared
  config     := LaneConfig.default
  opening    := none
  run        := none
  restartDue := false

/-- What stops the machine. -/
inductive Fault where
  /-- Raised by ONE_BIT_DISTURBANCE and SILENT_DISTURBANCE for a word that the store does not have: a frame above 127
  or an offset above 255 (R1). Safe: the part has no such word (log 32). -/
  | noStoreWord (frame offset : Nat)
  deriving DecidableEq, Repr

/-- What the model refuses. -/
inductive Refusal where
  /-- Answered by exec for a row that has no meaning in the model; no row is left so. Safe. -/
  | notModelled (mnemonic : String)
  deriving DecidableEq, Repr

end Sys2Proof.Machine
end

