-- ==== Sys2Proof/Machine/Ops.lean ====
section
/-! DEFINITION. The named operations on the tables, the sets and the memory of the state: one way to read each, one way
to write each. -/

namespace Sys2Proof.Machine

/-- What a command answers. -/
abbrev Result := Host.Outcome State Fault Refusal

/-! ### Tables and saturating counts -/

/-- The entry at index `i` of a table, `d` outside it. -/
def tableGet {α : Type} {n : Nat} (t : Vector α n) (i : Nat) (d : α) : α := t[i]?.getD d

/-- The table with `x` at index `i`; outside the table nothing changes. -/
def tableSet {α : Type} {n : Nat} (t : Vector α n) (i : Nat) (x : α) : Vector α n := t.setIfInBounds i x

/-- The list with index numbers, from `i` on. -/
def numbered {α : Type} (i : Nat) : List α → List (Nat × α)
  | [] => []
  | x :: xs => (i, x) :: numbered (i + 1) xs

/-- One event more on a saturating count of maximum `m` (00, Saturating counts). -/
def bump (m c : Nat) : Nat := if c < m then c + 1 else c

/-! ### Page sets: strictly ascending lists -/

/-- The set with `x` in it. -/
def setInsert (x : Nat) : List Nat → List Nat
  | [] => [x]
  | y :: ys => if x < y then x :: y :: ys else if x = y then y :: ys else y :: setInsert x ys

/-- The set without `x`. -/
def setErase (x : Nat) (xs : List Nat) : List Nat := xs.filter (fun y => y != x)

/-- The union of two sets. -/
def setUnion (xs ys : List Nat) : List Nat := xs.foldr setInsert ys

/-- Every member of the first is a member of the second. -/
def setCovered (xs ys : List Nat) : Bool := xs.all (fun x => ys.contains x)

/-! ### The words of the store (R1) -/

/-- The key of a word of a frame. -/
def wordKey (frame offset : Nat) : Nat := frame * 256 + offset

/-- The cell at a key (log 9). -/
def Memory.get : Memory → Nat → Cell
  | [], _ => Cell.zero
  | (k, c) :: m, a => if k = a then c else Memory.get m a

/-- The memory with a listed cell at a key, in key order. -/
def Memory.place : Memory → Nat → Cell → Memory
  | [], a, c => [(a, c)]
  | (k, d) :: m, a, c =>
    if a < k then (a, c) :: (k, d) :: m else if a = k then (a, c) :: m else (k, d) :: Memory.place m a c

/-- The memory with nothing listed at the keys from `lo` up to but not including `hi`: all of them read 0, 0, CLEAN. -/
def Memory.clear (m : Memory) (lo hi : Nat) : Memory := m.filter (fun e => e.1 < lo || hi ≤ e.1)

/-- The memory with cell `c` at key `a`, in canonical form: the cell that an unlisted key reads as is not listed. -/
def Memory.set (m : Memory) (a : Nat) (c : Cell) : Memory :=
  if c = Cell.zero then m.clear a (a + 1) else m.place a c

/-- The canonical form: keys strictly rising, and no listed cell equal to what an unlisted key reads as (log 9). -/
abbrev Memory.wf (m : Memory) : Prop := m.Pairwise (fun x y => x.1 < y.1) ∧ ∀ e ∈ m, e.2 ≠ Cell.zero

/-- The check state CLEAN, SINGLE or DOUBLE aside, the value a correcting read recovers (R1, R7). -/
def Content.recovered : Content → Option Word
  | .clean v => some v
  | .single v => some v
  | .double => none

/-- A word as a write leaves it (R5). -/
def Cell.write (v : Word) : Cell := ⟨v, .clean v⟩

/-- One bit of the word disturbed (R2). -/
def Cell.disturb (c : Cell) : Cell :=
  match c.content with
  | .clean v => ⟨c.written, .single v⟩
  | .single _ => ⟨c.written, .double⟩
  | .double => c

/-- The word silently changed to another stored value (R3). -/
def Cell.silent (c : Cell) (v : Word) : Cell :=
  match c.content with
  | .clean _ => ⟨c.written, .clean v⟩
  | .single _ => ⟨c.written, .clean v⟩
  | .double => c

/-- The new word of a copy write from the old word, as the move's read left it (R6). -/
def Cell.copy (c : Cell) : Cell :=
  match c.content with
  | .clean v => ⟨c.written, .clean v⟩
  | .single v => ⟨c.written, .clean v⟩
  | .double => ⟨c.written, .double⟩

/-! ### Reading and writing the tables of the state -/

/-- The region record of an id, none when undefined (R21). -/
def State.region (s : State) (id : Nat) : Option Region := tableGet s.regions id none

/-- The state with a region record (R21). -/
def State.setRegion (s : State) (id : Nat) (r : Option Region) : State := { s with regions := tableSet s.regions id r }

/-- The page map entry of a page (R25). -/
def State.page (s : State) (page : Nat) : PageEntry := tableGet s.pages page .unmapped

/-- The state with a page map entry (R25). -/
def State.setPage (s : State) (page : Nat) (e : PageEntry) : State := { s with pages := tableSet s.pages page e }

/-- The record of a frame (R27). -/
def State.frame (s : State) (frame : Nat) : FrameRecord := tableGet s.frames frame FrameRecord.fresh

/-- The state with a frame record (R27). -/
def State.setFrame (s : State) (frame : Nat) (f : FrameRecord) : State := { s with frames := tableSet s.frames frame f }

/-- The lock record of an index (R72). -/
def State.lock (s : State) (index : Nat) : LockRecord := tableGet s.locks index LockRecord.cleared

/-- The state with a lock record (R72). -/
def State.setLock (s : State) (index : Nat) (r : LockRecord) : State := { s with locks := tableSet s.locks index r }

/-- The cell of a word of a frame (R1). -/
def State.cell (s : State) (frame offset : Nat) : Cell := s.mem.get (wordKey frame offset)

/-- The state with the cell of a word of a frame (R1). -/
def State.setCell (s : State) (frame offset : Nat) (c : Cell) : State :=
  { s with mem := s.mem.set (wordKey frame offset) c }

/-- The peer record of the peer at a port (R93). -/
def State.peer (s : State) : LinkPort → PeerRecord
  | .u => s.peerU
  | .v => s.peerV

/-- The state with the peer record of a port (R93). -/
def State.setPeer (s : State) (port : LinkPort) (p : PeerRecord) : State :=
  match port with
  | .u => { s with peerU := p }
  | .v => { s with peerV := p }

/-- The link controller of a port (R155). -/
def State.link (s : State) : LinkPort → Link
  | .u => s.linkU
  | .v => s.linkV

/-- The state with the link controller of a port (R155). -/
def State.setLink (s : State) (port : LinkPort) (l : Link) : State :=
  match port with
  | .u => { s with linkU := l }
  | .v => { s with linkV := l }

/-- The port other than this one. -/
def otherPort : LinkPort → LinkPort
  | .u => .v
  | .v => .u

/-- The two ports, U first. -/
def bothPorts : List LinkPort := [.u, .v]

/-- The timebase carried to the instant `t`, if it has not passed it (log 1). -/
def State.passTo (s : State) (t : Nat) : State := { s with time := max s.time t }

/-! ### Pages and regions -/

/-- The region id and record that hold a page (R21). -/
def State.regionOf (s : State) (page : Nat) : Option (Nat × Region) :=
  (List.range 16).findSome? fun id =>
    match s.region id with
    | some r => if r.first ≤ page ∧ page < r.first + r.count then some (id, r) else none
    | none => none

/-- The class of the region that holds a page (R21). -/
def State.classOf (s : State) (page : Nat) : Option RegionClass := (s.regionOf page).map (fun x => x.2.cls)

/-- The page lies in a VITAL region (R21). -/
def State.isVital (s : State) (page : Nat) : Bool := s.classOf page == some .vital

/-- The VITAL pages of the lane, ascending (R21). -/
def State.vitalPages (s : State) : List Nat := (List.range 120).filter (fun p => s.isVital p)

/-- The pages of a region, ascending (R21). -/
def Region.pages (r : Region) : List Nat := (List.range r.count).map (fun k => r.first + k)

/-- The words of a region (R43). -/
def Region.words (r : Region) : Nat := r.count * 256

/-- The region offset of a word (R43). -/
def Region.offsetOf (r : Region) (page offset : Nat) : Nat := (page - r.first) * 256 + offset

/-- The frame that an access to one word of a page reaches: the page's frame, or by the cursor rule (R20, R36). -/
def PageEntry.frameAt : PageEntry → Nat → Option Nat
  | .unmapped, _ => none
  | .active f, _ => some f
  | .restoring f, _ => some f
  | .poisoned f, _ => some f
  | .moving f g cursor _ _, offset => some (if offset < cursor then g else f)

/-- The old frame that a write below the move cursor is made to as well (R36). -/
def PageEntry.alsoWritten : PageEntry → Nat → Option Nat
  | .moving f _ cursor _ _, offset => if offset < cursor then some f else none
  | .unmapped, _ => none
  | .active _, _ => none
  | .restoring _, _ => none
  | .poisoned _, _ => none

/-- The page is mapped (R27). -/
def PageEntry.mapped : PageEntry → Bool
  | .unmapped => false
  | .active _ => true
  | .restoring _ => true
  | .poisoned _ => true
  | .moving _ _ _ _ _ => true

/-- POISONED, or MOVING with the poisoned mark (R26). -/
def PageEntry.isPoisoned : PageEntry → Bool
  | .poisoned _ => true
  | .moving _ _ _ poisonedMark _ => poisonedMark
  | .unmapped => false
  | .active _ => false
  | .restoring _ => false

/-- RESTORING, or MOVING with the restoring mark (R26). -/
def PageEntry.isRestoring : PageEntry → Bool
  | .restoring _ => true
  | .moving _ _ _ _ restoringMark => restoringMark
  | .unmapped => false
  | .active _ => false
  | .poisoned _ => false

/-- The state a page takes on `frame` when its move ends or is abandoned, by its marks (R38, R39). -/
def settledEntry (frame : Nat) (poisonedMark restoringMark : Bool) : PageEntry :=
  if poisonedMark then .poisoned frame else if restoringMark then .restoring frame else .active frame

/-- The written value of a word of a page, 0 in an UNMAPPED page (R42). -/
def State.writtenAt (s : State) (page offset : Nat) : Word :=
  match (s.page page).frameAt offset with
  | some f => (s.cell f offset).written
  | none => 0

end Sys2Proof.Machine
end

