-- ==== Sys2Proof/Machine/Flags.lean ====
section
/-! DEFINITION. What the part shows that is judged from its state: the ranks and the offered class of the attention
controller with ATTN (R166, R168), the HEALTH lines (R129), the lane numbers of the ports (R155), and the counts of the
frame pool (R27). -/

namespace Sys2Proof.Machine

/-! ### Attention -/

/-- The number of a class (10.1). -/
def FaultClass.num : FaultClass → Nat
  | .vote => 0
  | .store => 1
  | .restore => 2
  | .lock => 3
  | .link => 4
  | .patrol => 5
  | .retire => 6
  | .port => 7

/-- The class that a detail record belongs to (10.1). -/
def Detail.cls : Detail → FaultClass
  | .vote _ _ _ _ _ => .vote
  | .store _ _ _ _ => .store
  | .restore _ _ _ _ => .restore
  | .lock _ _ => .lock
  | .link _ _ => .link
  | .patrol _ _ => .patrol
  | .retire _ _ _ => .retire
  | .port _ => .port

/-- The record of class number `k` (R166). -/
def Attention.cls (a : Attention) (k : Nat) : ClassRecord := tableGet a.classes k ClassRecord.cleared

/-- The rank of class `k`, 0 the highest (R166). -/
def Attention.rank (a : Attention) (k : Nat) : Nat := (k + 15 - a.lowest) % 8

/-- The class of rank `r` (R166). -/
def Attention.ofRank (a : Attention) (r : Nat) : Nat := (a.lowest + 1 + r) % 8

/-- Class `k` outranks every class in service (R168). -/
def Attention.outranksService (a : Attention) (k : Nat) : Bool :=
  (List.range 8).all fun j => !(a.cls j).inService || a.rank k < a.rank j

/-- A TAKE would consider class `k`: pending, not masked, and outranking every class in service (R168, R169). -/
def Attention.eligible (a : Attention) (k : Nat) : Bool :=
  (a.cls k).pending && !(a.cls k).masked && a.outranksService k

/-- The classes from the highest rank to the lowest (R166). -/
def Attention.byRank (a : Attention) : List Nat := (List.range 8).map a.ofRank

/-- The class that a TAKE would return (R169). -/
def Attention.offered (a : Attention) : Option Nat := a.byRank.find? a.eligible

/-- The in-service class of highest rank (R170). -/
def Attention.highestInService (a : Attention) : Option Nat := a.byRank.find? (fun k => (a.cls k).inService)

/-- ATTN judged again (R168). -/
def Attention.judge (a : Attention) : Attention := { a with attn := a.offered.isSome }

/-- A set of classes as a byte, class k in bit k (R187). -/
def Attention.byteOf (a : Attention) (f : ClassRecord → Bool) : Byte :=
  (List.range 8).foldl (fun b k => if f (a.cls k) then b ||| (1#8 <<< k) else b) 0

/-! ### Health lines -/

/-- HEALTH-A is high (R129). -/
def Health.lineA (h : Health) : Bool :=
  match h.wave with
  | some w => w.phase == .aHigh
  | none => false

/-- HEALTH-B is high (R129). -/
def Health.lineB (h : Health) : Bool :=
  match h.wave with
  | some w => w.phase == .aLow
  | none => false

/-! ### Lane numbers -/

/-- The lane number at the far end of a port (R155). -/
def State.peerLane (s : State) : LinkPort → Nat
  | .u => (s.config.lane + 1) % 3
  | .v => (s.config.lane + 2) % 3

/-- The two ports in the order of their peers' lane numbers (R187). -/
def State.portsByLane (s : State) : List LinkPort := if s.peerLane .u < s.peerLane .v then [.u, .v] else [.v, .u]

/-! ### Lane mode -/

/-- The lane is in SERVICE. -/
def State.inService (s : State) : Bool := s.lane.mode == some .service

/-- The lane is OFFLINE. -/
def State.isOffline (s : State) : Bool := s.lane.mode == some .offline

/-- The lane is JOINING. -/
def State.isJoining (s : State) : Bool := s.lane.mode == some .joining

/-- The start-up sweep runs (R18). -/
def State.sweeping (s : State) : Bool := s.sweep.isSome

/-! ### Frame pool counts -/

/-- The number of frames in a state (R27). -/
def State.countFrames (s : State) (st : FrameState) : Nat := s.frames.toList.countP (fun f => f.state == st)

/-- The number of WORN frames (R27). -/
def State.countWorn (s : State) : Nat := s.frames.toList.countP (fun f => f.worn)

end Sys2Proof.Machine
end

