-- ==== Sys2Proof/Machine/Attention.lean ====
section
/-! DEFINITION. The events of the attention controller (chapter 10). Each judges ATTN again in the same event (R168). -/

namespace Sys2Proof.Machine

/-- The controller with the record of class `k` changed, ATTN not yet judged. -/
def Attention.update (a : Attention) (k : Nat) (f : ClassRecord → ClassRecord) : Attention :=
  { a with classes := tableSet a.classes k (f (a.cls k)) }

/-- The class record after a raise with a detail (R167). -/
def ClassRecord.raised (r : ClassRecord) (d : Detail) : ClassRecord :=
  { r with pending := true, count := bump 255 r.count, detail := some d }

/-- A raise (R167). -/
def Attention.raise (a : Attention) (d : Detail) : Attention := (a.update d.cls.num (fun r => r.raised d)).judge

/-- A raise of a class by some block of the part (R167). -/
def State.raise (s : State) (d : Detail) : State := { s with attention := s.attention.raise d }

/-- TAKE of the class offered: pending cleared, in service, count 0, detail kept (R169). -/
def Attention.takeClass (a : Attention) (k : Nat) : Attention :=
  (a.update k (fun r => { r with pending := false, inService := true, count := 0 })).judge

/-- A DONE that clears class `k`; in ROTATING it becomes the lowest class (R170, R171). -/
def Attention.finish (a : Attention) (k : Nat) : Attention :=
  let b := a.update k (fun r => { r with inService := false })
  (if a.rotating then { b with lowest := k } else b).judge

/-- The masks of all eight classes replaced (R172). -/
def Attention.setMasks (a : Attention) (set : Byte) : Attention :=
  ({ a with classes := a.classes.mapIdx (fun k r => { r with masked := set.getLsbD k }) } : Attention).judge

/-- The priority mode and lowest class set (R171). -/
def Attention.setOrder (a : Attention) (rotating : Bool) (lowest : Nat) : Attention :=
  ({ a with rotating := rotating, lowest := lowest } : Attention).judge

end Sys2Proof.Machine
end

