-- ==== Sys2Proof/Machine/DigestMath.lean ====
section
/-! DEFINITION. The digest formula and the figures formed with it (chapter 3). -/

namespace Sys2Proof.Machine

/-- The weight of region offset `i` at a seed (R43). -/
def weight (seed i : Nat) : Digest := Fin.ofNat 65537 ((i + 1) * seed)

/-- The contribution of the words from region offset `i` on to the digest formula (R44). -/
def digestFrom (seed i : Nat) : List Nat → Digest
  | [] => 0
  | w :: ws => Fin.ofNat 65537 (w + 1) * weight seed i + digestFrom seed (i + 1) ws

/-- The digest of a run of word values at a seed (R44). -/
def digestOf (seed : Nat) (ws : List Nat) : Digest := digestFrom seed 0 ws

/-- The zero-image digest of a region of `pages` pages (R45). -/
def zeroImage (pages seed : Nat) : Digest :=
  Fin.ofNat 65537 (seed * ((pages * 256) * (pages * 256 + 1) / 2))

/-- The term of a change of a word from `v` to `v'` at region offset `i` (R46). -/
def changeTerm (seed i : Nat) (v v' : Word) : Digest :=
  (Fin.ofNat 65537 v'.toNat - Fin.ofNat 65537 v.toNat) * weight seed i

/-- The written values of a region by region offset, words of UNMAPPED pages as 0 (R42, R44). -/
def State.regionWords (s : State) (r : Region) : List Nat :=
  r.pages.flatMap fun p => (List.range 256).map fun o => (s.writtenAt p o).toNat

/-- The digest of a region's written values (R44). -/
def State.regionDigest (s : State) (r : Region) : Digest := digestOf r.seed (s.regionWords r)

/-- The code of a lock state (R53, R188). -/
def LockState.code : LockState → Nat
  | .idle => 0
  | .running => 1
  | .expired => 2

/-- The four words of a lock record in the lock digest (R53). -/
def LockTimer.words (t : LockTimer) : List Nat :=
  [t.state.code, (t.remaining + 4096).toNat, t.preset, t.pending.getD 0]

/-- The lock digest of 48 records in index order (R54). -/
def lockDigestOf (ts : List LockTimer) : Digest := digestOf 257 (ts.flatMap LockTimer.words)

/-- The lock image: the timers of the records in index order (R89). -/
def State.lockImage (s : State) : List LockTimer := s.locks.toList.map LockRecord.timer

/-- The lock digest of the records as they stand (R54). -/
def State.lockDigest (s : State) : Digest := lockDigestOf s.lockImage

/-- The closing digest list: the live digest of each VITAL region in ascending id, then entry 16 (R97). -/
def State.closingList (s : State) : DigestList :=
  ((List.range 16).filterMap fun id =>
    match s.region id with
    | some r => if r.cls == .vital then some (id, r.live) else none
    | none => none) ++ [(16, s.lockDigest)]

end Sys2Proof.Machine
end

