-- ==== Sys2Proof/Machine/Formats.lean ====
section
/-! DEFINITION. The byte and word layouts of chapter 12: the frame check, big-endian fields, the codes of R188, host
frames, reply payloads and link frames. -/

namespace Sys2Proof.Machine

/-! ### The frame check (R186) -/

/-- One data bit into the check register. -/
def crcBit (r : Word) (bit : Bool) : Word := if r.msb == bit then r <<< 1 else (r <<< 1) ^^^ 0x1021#16

/-- One byte into the check register, most significant bit first. -/
def crcByte (r : Word) (b : Byte) : Word :=
  [7, 6, 5, 4, 3, 2, 1, 0].foldl (fun r k => crcBit r (b.getLsbD k)) r

/-- The frame check over bytes. -/
def crcBytes (bs : List Byte) : Word := bs.foldl crcByte 0xFFFF#16

/-- The two bytes of a word, high byte first. -/
def wordBytes (w : Word) : List Byte := [BitVec.ofNat 8 (w.toNat / 256), BitVec.ofNat 8 w.toNat]

/-- The frame check over words (R188). -/
def crcWords (ws : List Word) : Word := crcBytes (ws.flatMap wordBytes)

/-! ### Fields, most significant first -/

/-- A value in one byte. -/
def field1 (n : Nat) : List Byte := [BitVec.ofNat 8 n]

/-- A value in two bytes. -/
def field2 (n : Nat) : List Byte := [BitVec.ofNat 8 (n / 256), BitVec.ofNat 8 n]

/-- A value in three bytes. -/
def field3 (n : Nat) : List Byte := BitVec.ofNat 8 (n / 65536) :: field2 n

/-- A value in four bytes. -/
def field4 (n : Nat) : List Byte := BitVec.ofNat 8 (n / 16777216) :: field3 n

/-- The value of a field. -/
def fieldValue (bs : List Byte) : Nat := bs.foldl (fun a b => a * 256 + b.toNat) 0

/-- A flag in one byte. -/
def flagByte (b : Bool) : List Byte := field1 (if b then 1 else 0)

/-- A cycle number in two words. -/
def cycleWords (n : Nat) : List Word := [BitVec.ofNat 16 (n / 65536), BitVec.ofNat 16 n]

/-! ### Codes (R188) -/

/-- Outcome codes. -/
def ReplyOutcome.code : ReplyOutcome → Nat
  | .ok => 0
  | .badFrame => 1
  | .badKind => 2
  | .badLength => 3
  | .badArgument => 4
  | .wrongMode => 5
  | .wrongState => 6
  | .notMapped => 7
  | .unreadable => 8
  | .noFrames => 9
  | .outOfOrder => 10
  | .cycleLimit => 11
  | .notInService => 12
  | .busy => 13
  | .stopped => 14

/-- Lane mode codes. -/
def LaneMode.code : LaneMode → Nat
  | .offline => 0
  | .joining => 1
  | .service => 2
  | .stopped => 3

/-- Stop cause codes, 0 for absent. -/
def StopCause.code : StopCause → Nat
  | .host => 1
  | .outvoted => 2
  | .noMajority => 3
  | .alone => 4
  | .deadline => 5
  | .store => 6
  | .silent => 7
  | .joinFailed => 8

/-- Verdict codes, 0 for absent. -/
def Verdict.code : Verdict → Nat
  | .agreed => 1
  | .peerDivergent => 2
  | .outvoted => 3
  | .noMajority => 4
  | .alone => 5

/-- Vote state codes. -/
def VoteState.code : VoteState → Nat
  | .none => 0
  | .opened => 1
  | .decided => 2

/-- Peer state codes. -/
def PeerState.code : PeerState → Nat
  | .absent => 0
  | .present => 1
  | .divergent => 2
  | .joining => 3

/-- Region class codes. -/
def RegionClass.code : RegionClass → Nat
  | .vital => 1
  | .lane => 2

/-- The region class of a code. -/
def RegionClass.ofCode (n : Nat) : Option RegionClass := if n = 1 then some .vital else if n = 2 then some .lane else none

/-- Region state codes. -/
def RegionState.code : RegionState → Nat
  | .clean => 0
  | .incomplete => 1
  | .suspect => 2

/-- Frame state codes. -/
def FrameState.code : FrameState → Nat
  | .free => 0
  | .inUse => 1
  | .retired => 2

/-- Store source codes. -/
def StoreSource.code : StoreSource → Nat
  | .read => 1
  | .write => 2
  | .fill => 3
  | .zero => 4
  | .patrol => 5
  | .move => 6
  | .gate => 7
  | .send => 8
  | .capture => 9
  | .landing => 10

/-- Lock mode codes, 0 for absent. -/
def LockMode.code : LockMode → Nat
  | .plain => 1
  | .pause => 2
  | .rearm => 3

/-- The lock mode of a code. -/
def LockMode.ofCode (n : Nat) : Option LockMode :=
  if n = 1 then some .plain else if n = 2 then some .pause else if n = 3 then some .rearm else none

/-- The lock state of a code. -/
def LockState.ofCode (n : Nat) : Option LockState :=
  if n = 0 then some .idle else if n = 1 then some .running else if n = 2 then some .expired else none

/-- Serve state codes. -/
def ServePhase.code : ServePhase → Nat
  | .bulk => 1
  | .final => 2

/-- Join state codes. -/
def JoinPhase.code : JoinPhase → Nat
  | .waiting => 1
  | .asked => 2
  | .landing => 3

/-- Restoration reason codes, 0 for absent. -/
def RestoreReason.code : RestoreReason → Nat
  | .notEnabled => 1
  | .notServing => 2
  | .busyServing => 3
  | .notAgreed => 4
  | .mismatch => 5
  | .donorSilent => 6
  | .stale => 7
  | .noConvergence => 8
  | .donorLeft => 9
  | .linkDown => 10
  | .askedAgain => 11

/-- The decline reason of a code, 1 to 4 (R188). -/
def declineReason (n : Nat) : Option RestoreReason :=
  if n = 1 then some .notEnabled else if n = 2 then some .notServing else if n = 3 then some .busyServing
  else if n = 4 then some .notAgreed else none

/-- The abort reason of a code, 5 to 9 (R188). -/
def abortReason (n : Nat) : Option RestoreReason :=
  if n = 5 then some .mismatch else if n = 6 then some .donorSilent else if n = 7 then some .stale
  else if n = 8 then some .noConvergence else if n = 9 then some .donorLeft else none

/-- RESTORE role codes. -/
def RestoreRole.code : RestoreRole → Nat
  | .donor => 1
  | .receiver => 2

/-- RESTORE outcome codes. -/
def RestoreOutcome.code : RestoreOutcome → Nat
  | .accepted => 1
  | .declined => 2
  | .served => 3
  | .aborted => 4
  | .failed => 5
  | .joined => 6

/-- LINK reason codes. -/
def LinkReason.code : LinkReason → Nat
  | .checkFail => 1
  | .down => 2
  | .up => 3
  | .late => 4
  | .earlyOverwritten => 5
  | .absent => 6

/-- LOCK event codes. -/
def LockEvent.code : LockEvent → Nat
  | .expired => 1
  | .overrange => 2

/-- PATROL outcome codes. -/
def PatrolOutcome.code : PatrolOutcome → Nat
  | .silent => 1
  | .suspect => 2

/-- RETIRE outcome codes. -/
def RetireOutcome.code : RetireOutcome → Nat
  | .retired => 1
  | .sparesExhausted => 2
  | .abandoned => 3

/-- PORT reason codes. -/
def PortReason.code : PortReason → Nat
  | .badFrame => 1
  | .busy => 2

/-- A code that may be absent. -/
def codeOr {α : Type} (absent : Nat) (f : α → Nat) (x : Option α) : Nat := (x.map f).getD absent

/-! ### Reply payloads (R187, R188) -/

/-- The fields of a detail record, before the unused bytes (R188). -/
def Detail.fields : Detail → List Byte
  | .vote cycle verdict participants odd cause =>
    field4 cycle ++ field1 (codeOr 0 Verdict.code verdict) ++ field1 (participants.getD 0) ++ field1 (odd.getD 255) ++
      field1 (codeOr 0 StopCause.code cause)
  | .store address region cls source =>
    field2 (address.getD 65535) ++ field1 region ++ field1 cls.code ++ field1 source.code
  | .restore role outcome reason cycle =>
    field1 role.code ++ field1 outcome.code ++ field1 (codeOr 0 RestoreReason.code reason) ++ field4 cycle
  | .lock index event => field1 index ++ field1 event.code
  | .link peer reason => field1 peer ++ field1 reason.code
  | .patrol region outcome => field1 region ++ field1 outcome.code
  | .retire frame page outcome => field1 frame ++ field1 page ++ field1 outcome.code
  | .port reason => field1 reason.code

/-- The 8-byte detail of a TAKE reply, 0 in any bytes left unused (R188). -/
def detailBytes (d : Option Detail) : List Byte :=
  let bs := match d with
    | some d => d.fields
    | none => []
  bs ++ List.replicate (8 - bs.length) 0

/-- A closing digest list in a CYCLE-CLOSE reply: id 1, digest 3 per entry (R187). -/
def listBytes (l : DigestList) : List Byte := l.flatMap fun e => field1 e.1 ++ field3 e.2.val

/-- The configuration as CONFIG-LANE carries it (R187). -/
def LaneConfig.bytes (c : LaneConfig) : List Byte :=
  field1 c.lane ++ field2 c.window ++ field2 c.deadline ++ field1 c.missLimit ++ field1 c.halfPeriod ++ field1 c.pace ++
    field1 c.retire ++ field1 c.finalLimit ++ field1 c.burst ++ field2 c.linkTimeout ++ flagByte c.serveEnable

/-- The five words of a lock record (R188). -/
def LockTimer.encode (t : LockTimer) : List Word :=
  [BitVec.ofNat 16 (t.state.code * 256 + codeOr 0 LockMode.code t.mode + (if t.overrange then 128 else 0)),
    BitVec.ofNat 16 (t.gate.getD 65535), BitVec.ofNat 16 t.preset, BitVec.ofNat 16 (t.pending.getD 0),
    BitVec.ofNat 16 (t.remaining + 4096).toNat]

/-- A release value in two bytes, 0 when absent (R188). -/
def releaseBytes (r : Option Int) : List Byte := field2 ((r.map fun x => (x + 4096).toNat).getD 0)

/-- The 14-byte host lock record (R188). -/
def LockRecord.bytes (index : Nat) (r : LockRecord) : List Byte :=
  field1 index ++ r.timer.encode.flatMap wordBytes ++ releaseBytes r.release ++ flagByte r.overwritten

/-- A frame record in a FRAMES reply (R187). -/
def FrameRecord.bytes (number : Nat) (f : FrameRecord) : List Byte :=
  field1 number ++ field1 f.state.code ++ field1 f.count ++ flagByte f.worn ++ field1 (f.page.getD 255)

/-- A poison entry in a POISON reply (R187). -/
def PoisonEntry.bytes (e : PoisonEntry) : List Byte := field2 e.address ++ field1 e.source.code ++ field4 e.cycle

/-- A peer record in the STATUS block (R187). -/
def PeerRecord.bytes (lane : Nat) (p : PeerRecord) : List Byte :=
  field1 lane ++ field1 p.state.code ++ field4 p.lastCycle ++ flagByte p.confirmed ++ field1 p.miss ++
    field4 ((p.early.map EarlyDigest.cycle).getD 0) ++ flagByte p.earlyOverwritten ++ field1 p.late

/-- The transfer engine group of the STATUS block (R133, R187; log 20). -/
def State.transferBytes (s : State) : List Byte :=
  match s.serve, s.join with
  | some v, _ =>
    field1 1 ++ field1 v.phase.code ++ field1 (s.peerLane v.receiver) ++ field1 0 ++
      field1 (match v.phase with
        | .bulk => v.sentOnce.length
        | .final => v.fullySent.length) ++ field1 v.slots.length
  | none, some j =>
    field1 2 ++ field1 j.phase.code ++ field1 (codeOr 255 s.peerLane j.candidate) ++ field1 j.attempts ++
      field1 j.landed.length ++ field1 0
  | none, none => field1 0 ++ field1 0 ++ field1 255 ++ field1 0 ++ field1 0 ++ field1 0

/-- The defined regions with their ids (R179). -/
def State.definedRegions (s : State) : List (Nat × Region) :=
  (List.range 16).filterMap fun id => (s.region id).map fun r => (id, r)

/-- The STATUS block (R179, R187). The cycle of an absent verdict record is sent as 0 (log 20). -/
def State.statusBytes (s : State) : List Byte :=
  flagByte (!s.sweeping) ++ field1 (codeOr 255 LaneMode.code s.lane.mode) ++ flagByte s.lane.confirmed ++
    field1 (codeOr 0 StopCause.code s.lane.stopCause) ++
    s.config.bytes ++
    field4 s.vote.lastClosed ++ field1 s.vote.state.code ++
    (match s.vote.lastVerdict with
      | some v => field4 v.cycle ++ field1 v.verdict.code ++ field1 v.participants ++ field1 (v.odd.getD 255)
      | none => field4 0 ++ field1 0 ++ field1 0 ++ field1 255) ++
    s.portsByLane.flatMap (fun p => (s.peer p).bytes (s.peerLane p)) ++
    bothPorts.flatMap (fun p =>
      field1 (match p with
        | .u => 0
        | .v => 1) ++ field1 (s.peerLane p) ++ flagByte (s.link p).up ++ field1 (s.link p).errors) ++
    s.transferBytes ++
    field1 (s.countFrames .free) ++ field1 (s.countFrames .inUse) ++ field1 (s.countFrames .retired) ++ field1 s.countWorn ++
    field1 s.poison.length ++
    [s.attention.byteOf ClassRecord.pending, s.attention.byteOf ClassRecord.inService, s.attention.byteOf ClassRecord.masked] ++
    field1 s.definedRegions.length ++
    s.definedRegions.flatMap (fun x =>
      field1 x.1 ++ field1 x.2.first ++ field1 x.2.count ++ field1 x.2.cls.code ++ field3 x.2.seed ++ field1 x.2.state.code)

/-- A reply or answer on HP-TX, byte by byte (R186). -/
def Answer.frame (a : Answer) : List Byte :=
  let covered := field2 (4 + a.payload.length) ++ field1 a.kind ++ field2 a.tag ++ field1 a.outcome.code ++ a.payload
  0xA5#8 :: covered ++ wordBytes (crcBytes covered)

/-! ### Link frames (R188) -/

/-- The sync word (R188). -/
def syncWord : Word := 0x5AC3#16

/-- The kind number of a frame (R188). -/
def LinkBody.kind : LinkBody → Nat
  | .idleFill => 0
  | .digest _ _ _ => 1
  | .joinAsk => 2
  | .joinOffer _ => 3
  | .joinDecline _ => 4
  | .joinAbort _ => 5
  | .page _ _ _ => 6
  | .lockImage _ => 7
  | .syncMark _ _ => 8

/-- The low byte of the sender word (R188). -/
def LinkBody.senderLow : LinkBody → Nat
  | .digest _ confirmed _ => if confirmed then 1 else 0
  | .joinAsk => 0
  | .joinOffer _ => 0
  | .joinDecline _ => 0
  | .joinAbort _ => 0
  | .page _ _ _ => 0
  | .lockImage _ => 0
  | .syncMark _ _ => 0
  | .idleFill => 0

/-- The two words of a list entry (R188). -/
def entryWords (e : Nat × Digest) : List Word :=
  [BitVec.ofNat 16 (e.1 + (if e.2.val = 65536 then 256 else 0)), BitVec.ofNat 16 e.2.val]

/-- The body words of a frame (R188). -/
def LinkBody.words : LinkBody → List Word
  | .digest cycle _ list => cycleWords cycle ++ list.flatMap entryWords
  | .joinAsk => []
  | .joinOffer pages => [BitVec.ofNat 16 pages]
  | .joinDecline reason => [BitVec.ofNat 16 reason.code]
  | .joinAbort reason => [BitVec.ofNat 16 reason.code]
  | .page pg offset ws => BitVec.ofNat 16 (pg * 256 + offset) :: BitVec.ofNat 16 ws.length :: ws
  | .lockImage timers => timers.flatMap LockTimer.encode
  | .syncMark cycle list => cycleWords cycle ++ list.flatMap entryWords
  | .idleFill => []

/-- The words of a frame that the check covers, less the kind-and-length word: none but the body for the idle fill. -/
def LinkFrame.rest (f : LinkFrame) : List Word :=
  match f.body with
  | .idleFill => []
  | b => BitVec.ofNat 16 (f.sender * 256 + b.senderLow) :: b.words

/-- A frame on the line, word by word (R188). -/
def LinkFrame.words (f : LinkFrame) : List Word :=
  let covered := BitVec.ofNat 16 (f.body.kind * 4096 + (f.rest.length + 3)) :: f.rest
  syncWord :: covered ++ [crcWords covered]

/-- What a good frame holds, as received. A part is absent where its codes are not in the tables of R188. -/
inductive Received where
  | idleFill
  | digest (sender cycle : Nat) (confirmed : Option Bool) (list : Option DigestList)
  | joinAsk (sender : Nat)
  | joinOffer (pages : Nat)
  | joinDecline (reason : Option RestoreReason)
  | joinAbort (reason : Option RestoreReason)
  | page (page offset : Nat) (words : List Word)
  | lockImage (timers : Option (List LockTimer))
  | syncMark (cycle : Nat) (list : Option DigestList)
  deriving DecidableEq, Repr

/-- What a frame is received as at the far end, when it arrives whole (R188). -/
def LinkFrame.received (f : LinkFrame) : Received :=
  match f.body with
  | .digest cycle confirmed list => .digest f.sender cycle (some confirmed) (some list)
  | .joinAsk => .joinAsk f.sender
  | .joinOffer pages => .joinOffer pages
  | .joinDecline reason => .joinDecline (some reason)
  | .joinAbort reason => .joinAbort (some reason)
  | .page page offset words => .page page offset words
  | .lockImage timers => .lockImage (some timers)
  | .syncMark cycle list => .syncMark cycle (some list)
  | .idleFill => .idleFill

/-- A list fits its words: 1 to 17 entries with ids of one byte (R188). -/
def DigestList.fits (l : DigestList) : Bool :=
  decide (1 ≤ l.length ∧ l.length ≤ 17) && l.all fun e => decide (e.1 < 256)

/-- A lock record fits its five words (R188). -/
def LockTimer.fits (t : LockTimer) : Bool :=
  (match t.gate with
    | some g => decide (g < 65535)
    | none => true) &&
    decide (t.preset < 65536) &&
    (match t.pending with
      | some p => decide (1 ≤ p ∧ p < 65536)
      | none => true) &&
    decide (-4096 ≤ t.remaining ∧ t.remaining < 61440)

/-- A restoration reason that a JOIN-DECLINE carries, as against a JOIN-ABORT (8.1, R188). -/
def RestoreReason.isDecline (r : RestoreReason) : Bool := (declineReason r.code).isSome

/-- A restoration reason that a JOIN-ABORT carries (8.1, R188). -/
def RestoreReason.isAbort (r : RestoreReason) : Bool := (abortReason r.code).isSome

/-- The contents of a frame fit their words (R188). -/
def LinkFrame.fits (f : LinkFrame) : Bool :=
  decide (f.sender < 256) &&
    match f.body with
    | .digest cycle _ list => decide (cycle < 4294967296) && DigestList.fits list
    | .joinAsk => true
    | .joinOffer pages => decide (pages < 65536)
    | .joinDecline reason => reason.isDecline
    | .joinAbort reason => reason.isAbort
    | .page page offset words =>
      decide (page < 256) && decide (offset < 256) && decide (1 ≤ words.length ∧ words.length ≤ 128)
    | .lockImage timers => decide (timers.length = 48) && timers.all LockTimer.fits
    | .syncMark cycle list => decide (cycle < 4294967296) && DigestList.fits list
    | .idleFill => true

/-- A list entry as received: the high byte of the first word is 0, or 1 with a second word of 0 (R188). -/
def readEntry (a b : Word) : Option (Nat × Digest) :=
  if a.toNat / 256 = 0 then some (a.toNat % 256, Fin.ofNat 65537 b.toNat)
  else if a.toNat / 256 = 1 ∧ b = 0 then some (a.toNat % 256, Fin.ofNat 65537 65536)
  else none

/-- A digest list as received. -/
def readList : List Word → Option DigestList
  | [] => some []
  | [_] => none
  | a :: b :: ws =>
    match readEntry a b, readList ws with
    | some e, some l => some (e :: l)
    | _, _ => none

/-- The mode byte of a lock record, the overrange bit taken off: absent, or a mode; none for a code of no mode. -/
def readMode (n : Nat) : Option (Option LockMode) := if n = 0 then some none else (LockMode.ofCode n).map some

/-- A lock record as received (R188). -/
def readTimer (w1 w2 w3 w4 w5 : Word) : Option LockTimer :=
  match LockState.ofCode (w1.toNat / 256), readMode (w1.toNat % 128) with
  | some st, some mode =>
    some ⟨st, mode, if w2.toNat = 65535 then none else some w2.toNat, w3.toNat, if w4 = 0 then none else some w4.toNat,
      (w5.toNat : Int) - 4096, w1.getLsbD 7⟩
  | _, _ => none

/-- The lock records of a LOCK-IMAGE as received. -/
def readTimers : List Word → Option (List LockTimer)
  | [] => some []
  | w1 :: w2 :: w3 :: w4 :: w5 :: ws =>
    match readTimer w1 w2 w3 w4 w5, readTimers ws with
    | some t, some ts => some (t :: ts)
    | _, _ => none
  | _ :: _ => none

/-- A two-word cycle number as received. -/
def readCycle (a b : Word) : Nat := a.toNat * 65536 + b.toNat

/-- The length field fits the kind (R161, R188). `count` is the second body word, a PAGE's count. -/
def lengthFits (kind length count : Nat) : Bool :=
  if kind = 0 then length == 3
  else if kind = 1 ∨ kind = 8 then 8 ≤ length && length ≤ 40 && length % 2 == 0
  else if kind = 2 then length == 4
  else if kind = 3 ∨ kind = 4 ∨ kind = 5 then length == 5
  else if kind = 6 then 7 ≤ length && length ≤ 134 && length == count + 6
  else if kind = 7 then length == 244
  else false

/-- The contents of a frame by kind, from its sender word and body. -/
def readBody (kind : Nat) (sender : Word) (body : List Word) : Option Received :=
  match kind, body with
  | 1, a :: b :: ws =>
    some (.digest (sender.toNat / 256) (readCycle a b)
      (if sender.toNat % 256 = 0 then some false else if sender.toNat % 256 = 1 then some true else none) (readList ws))
  | 2, [] => some (.joinAsk (sender.toNat / 256))
  | 3, [n] => some (.joinOffer n.toNat)
  | 4, [n] => some (.joinDecline (declineReason n.toNat))
  | 5, [n] => some (.joinAbort (abortReason n.toNat))
  | 6, p :: _ :: ws => some (.page (p.toNat / 256) (p.toNat % 256) ws)
  | 7, ws => some (.lockImage (readTimers ws))
  | 8, a :: b :: ws => some (.syncMark (readCycle a b) (readList ws))
  | _, _ => none

/-- The check of a frame received whole, from its sync word to its check word: its contents if it is good, none if it
fails (R161, R188). -/
def checkLinkFrame (frame : List Word) : Option Received :=
  match frame with
  | _ :: head :: rest =>
    let kind := head.toNat / 4096
    let length := head.toNat % 4096
    let covered := head :: rest.dropLast
    if rest.getLast? = some (crcWords covered) ∧ length = frame.length ∧
        lengthFits kind length ((rest[2]?).getD 0).toNat = true then
      match kind, rest.dropLast with
      | 0, _ => some .idleFill
      | _, sender :: body => readBody kind sender body
      | _, [] => none
    else none
  | _ => none

end Sys2Proof.Machine
end

