-- ==== Sys2Proof/Machine/Operands.lean ====
section
/-! DEFINITION. The operand forms of the requests: the payload of each request (R187), the host frame that carries it
(R186), and the reading of a request from its kind, tag and payload. -/

namespace Sys2Proof.Machine

/-- A request as its frame carries it (R186). -/
structure Request where
  kind    : Nat
  tag     : Nat
  payload : List Byte
  deriving DecidableEq, Repr

/-- The payload of a CONFIG-LANE request (R187). -/
def laneBytes (v : LaneValues) : List Byte :=
  field1 v.lane ++ field2 v.window ++ field2 v.deadline ++ field1 v.missLimit ++ field1 v.halfPeriod ++ field1 v.pace ++
    field1 v.retire ++ field1 v.finalLimit ++ field1 v.burst ++ field2 v.linkTimeout ++ field1 v.serveEnable

/-- The request that a request row stands for; none for a row that is an event (R187). -/
def requestOf (i : Instr) : Option Request :=
  match i with
  | .powerOn => none
  | .startUpSweepEnd => none
  | .restartInput => none
  | .oneBitDisturbance _ _ => none
  | .silentDisturbance _ _ _ => none
  | .hostFrameCheck _ => none
  | .hostFrameCutOff => none
  | .replyEnd => none
  | .status tag => some ⟨1, tag, []⟩
  | .configLane tag values => some ⟨2, tag, laneBytes values⟩
  | .configRegion tag id firstPage pageCount classCode seed =>
    some ⟨3, tag, field1 id ++ field1 0 ++ field1 firstPage ++ field1 pageCount ++ field1 classCode ++ field3 seed⟩
  | .configRegionClear tag id => some ⟨3, tag, field1 id ++ field1 1 ++ field1 0 ++ field1 0 ++ field1 0 ++ field3 0⟩
  | .openCold tag => some ⟨4, tag, field1 1⟩
  | .openJoin tag => some ⟨4, tag, field1 2⟩
  | .openMappingEnd => none
  | .openColdZeroFillWrite _ => none
  | .openColdCompletion => none
  | .stop tag => some ⟨5, tag, []⟩
  | .read tag address count => some ⟨6, tag, field2 address ++ field1 count⟩
  | .hostReadWord => none
  | .write tag address count words => some ⟨7, tag, field2 address ++ field1 count ++ words.flatMap wordBytes⟩
  | .hostWriteWord => none
  | .fill tag page value => some ⟨8, tag, field1 page ++ wordBytes value⟩
  | .adopt tag region => some ⟨9, tag, field1 region⟩
  | .cycleClose tag cycle => some ⟨10, tag, field4 cycle⟩
  | .gateRead => none
  | .lockAdvance => none
  | .lockArm tag index modeCode gate preset =>
    some ⟨11, tag, field1 index ++ field1 modeCode ++ field2 (gate.getD 65535) ++ field2 preset⟩
  | .lockCancel tag index => some ⟨12, tag, field1 index⟩
  | .lockRead tag first count => some ⟨13, tag, field1 first ++ field1 count⟩
  | .take tag => some ⟨14, tag, []⟩
  | .doneClass tag cls => some ⟨15, tag, field1 cls⟩
  | .doneNoClass tag => some ⟨15, tag, field1 255⟩
  | .mask tag set => some ⟨16, tag, [set]⟩
  | .priorityFixed tag => some ⟨17, tag, field1 1 ++ field1 0⟩
  | .priorityRotating tag => some ⟨17, tag, field1 2 ++ field1 0⟩
  | .prioritySetLowest tag cls => some ⟨17, tag, field1 3 ++ field1 cls⟩
  | .frames tag first count => some ⟨18, tag, field1 first ++ field1 count⟩
  | .poison tag => some ⟨19, tag, []⟩
  | .restart tag => some ⟨20, tag, []⟩
  | .patrolStep => none
  | .moveTake => none
  | .moveStep => none
  | .windowExpiry => none
  | .deadlineExpiry => none
  | .halfPeriodExpiry => none
  | .linkFrameCheck _ _ => none
  | .linkReceiveCutOff _ => none
  | .silenceTimerExpiry => none
  | .sendStep => none
  | .finalSendStep => none
  | .lockImageQueued => none
  | .syncMarkQueued => none
  | .transmitEnd _ => none
  | .idleFill _ => none
  | .linkTimeout _ => none

/-- The bytes of a request frame that its check covers: length, kind, tag and payload (R186). -/
def Request.covered (r : Request) : List Byte := field2 (3 + r.payload.length) ++ field1 r.kind ++ field2 r.tag ++ r.payload

/-- A request frame, byte by byte (R186). -/
def Request.frame (r : Request) : List Byte := 0xA5#8 :: r.covered ++ wordBytes (crcBytes r.covered)

/-- The payload length that a kind requires, from the payload as received for WRITE (R187). -/
def requiredLength (kind : Nat) (payload : List Byte) : Nat :=
  match kind with
  | 2 => 14
  | 3 => 8
  | 4 => 1
  | 6 => 3
  | 7 => 3 + 2 * fieldValue (payload.drop 2 |>.take 1)
  | 8 => 3
  | 9 => 1
  | 10 => 4
  | 11 => 6
  | 12 => 1
  | 13 => 2
  | 15 => 1
  | 16 => 1
  | 17 => 2
  | 18 => 2
  | _ => 0

/-- The words of a WRITE payload. -/
def readWords : List Byte → List Word
  | a :: b :: bs => BitVec.ofNat 16 (fieldValue [a, b]) :: readWords bs
  | [_] => []
  | [] => []

/-- The value of the `n`-byte field at byte `i` of a payload. -/
def fieldAt (bs : List Byte) (i n : Nat) : Nat := fieldValue ((bs.drop i).take n)

/-- The values of a CONFIG-LANE payload (R187). -/
def readLane (p : List Byte) : LaneValues :=
  ⟨fieldAt p 0 1, fieldAt p 1 2, fieldAt p 3 2, fieldAt p 5 1, fieldAt p 6 1, fieldAt p 7 1, fieldAt p 8 1, fieldAt p 9 1,
    fieldAt p 10 1, fieldAt p 11 2, fieldAt p 13 1⟩

/-- The request row that a request of right payload length stands for; none for an OPEN kind, CONFIG-REGION operation or
PRIORITY form outside its table, which no row carries (R187; log 12). -/
def readRequest (r : Request) : Option Instr :=
  let p := r.payload
  match r.kind with
  | 1 => some (.status r.tag)
  | 2 => some (.configLane r.tag (readLane p))
  | 3 =>
    if fieldAt p 1 1 = 0 then
      some (.configRegion r.tag (fieldAt p 0 1) (fieldAt p 2 1) (fieldAt p 3 1) (fieldAt p 4 1) (fieldAt p 5 3))
    else if fieldAt p 1 1 = 1 then some (.configRegionClear r.tag (fieldAt p 0 1))
    else none
  | 4 =>
    if fieldAt p 0 1 = 1 then some (.openCold r.tag) else if fieldAt p 0 1 = 2 then some (.openJoin r.tag) else none
  | 5 => some (.stop r.tag)
  | 6 => some (.read r.tag (fieldAt p 0 2) (fieldAt p 2 1))
  | 7 => some (.write r.tag (fieldAt p 0 2) (fieldAt p 2 1) (readWords (p.drop 3)))
  | 8 => some (.fill r.tag (fieldAt p 0 1) (BitVec.ofNat 16 (fieldAt p 1 2)))
  | 9 => some (.adopt r.tag (fieldAt p 0 1))
  | 10 => some (.cycleClose r.tag (fieldAt p 0 4))
  | 11 =>
    some (.lockArm r.tag (fieldAt p 0 1) (fieldAt p 1 1) (if fieldAt p 2 2 = 65535 then none else some (fieldAt p 2 2))
      (fieldAt p 4 2))
  | 12 => some (.lockCancel r.tag (fieldAt p 0 1))
  | 13 => some (.lockRead r.tag (fieldAt p 0 1) (fieldAt p 1 1))
  | 14 => some (.take r.tag)
  | 15 => if fieldAt p 0 1 = 255 then some (.doneNoClass r.tag) else some (.doneClass r.tag (fieldAt p 0 1))
  | 16 => some (.mask r.tag (BitVec.ofNat 8 (fieldAt p 0 1)))
  | 17 =>
    if fieldAt p 0 1 = 1 then some (.priorityFixed r.tag)
    else if fieldAt p 0 1 = 2 then some (.priorityRotating r.tag)
    else if fieldAt p 0 1 = 3 then some (.prioritySetLowest r.tag (fieldAt p 1 1))
    else none
  | 18 => some (.frames r.tag (fieldAt p 0 1) (fieldAt p 1 1))
  | 19 => some (.poison r.tag)
  | 20 => some (.restart r.tag)
  | _ => none

end Sys2Proof.Machine
end

