-- ==== Sys2Proof/Machine/Port.lean ====
section
/-! DEFINITION. The host port (chapter 11): answers and the reply line, arriving bytes and frames, and the taking of
requests. -/

namespace Sys2Proof.Machine

/-! ### Answers -/

/-- An answer or reply become ready: it begins to leave if the line is quiet, else it waits in order (R178). -/
def HostPort.push (p : HostPort) (a : Answer) : HostPort :=
  match p.line with
  | none => { p with line := some a }
  | some _ => { p with ready := p.ready ++ [a] }

/-- The reply to the request in service, made ready (R178). -/
def State.reply (s : State) (outcome : ReplyOutcome) (payload : List Byte) : State :=
  match s.port.service with
  | some v => { s with port := s.port.push ⟨.reply, v.kind, v.tag, outcome, payload⟩ }
  | none => s

/-- An answer to a frame that is not taken, made ready at once (R175, R176). -/
def State.answerNow (s : State) (kind tag : Nat) (outcome : ReplyOutcome) : State :=
  { s with port := s.port.push ⟨.plain, kind, tag, outcome, []⟩ }

/-- The owed list with an answer at its newest end, if it has room (R177; log 10). -/
def owedPut (owed : List OwedAnswer) (o : OwedAnswer) : List OwedAnswer :=
  if owed.length < Config.owedCapacity then owed ++ [o] else owed

/-- An answer owed to a frame checked while a request is in service, with PORT raised (R177). -/
def State.owe (s : State) (kind tag : Nat) (outcome : ReplyOutcome) (reason : PortReason) : State :=
  ({ s with port := { s.port with owed := owedPut s.port.owed ⟨kind, tag, outcome, false⟩ } } : State).raise (.port reason)

/-- A frame that fails its check (R175). -/
def State.badFrame (s : State) : State :=
  match s.port.service with
  | some _ => s.owe 0 0 .badFrame .badFrame
  | none => (s.raise (.port .badFrame)).answerNow 0 0 .badFrame

/-! ### Requests -/

/-- A request taken into service and handed to its block (R177). -/
def State.serve1 (s : State) (kind tag : Nat) (handed : Option Instr) : State :=
  { s with port := { s.port with service := some ⟨kind, tag, handed⟩ } }

/-- The refusal, by its owning block, of a request whose code has no row (R117, R22, R171, R187; log 12, 35). -/
def State.refuseCode (s : State) (kind : Nat) : State :=
  if kind = 3 ∧ s.isOffline = false then s.reply .wrongMode [] else s.reply .badArgument []

/-- A request that no request is in service before, judged by the checks after the first of R176. -/
def State.judgeIdle (s : State) (kind tag : Nat) (lengthOk : Bool) (handed : Option Instr) : State :=
  if kind = 0 ∨ 20 < kind then s.answerNow kind tag .badKind
  else if !lengthOk then s.answerNow kind tag .badLength
  else if s.sweeping ∧ kind ≠ 1 then s.answerNow kind tag .busy
  else
    match handed with
    | some c => s.serve1 kind tag (some c)
    | none => (s.serve1 kind tag none).refuseCode kind

/-- A request judged (R176, R177). -/
def State.judge (s : State) (kind tag : Nat) (lengthOk : Bool) (handed : Option Instr) : State :=
  match s.port.service with
  | some _ => s.owe kind tag .busy .busy
  | none => s.judgeIdle kind tag lengthOk handed

/-! ### Arriving bytes (R175, R186) -/

/-- A frame that has arrived whole, checked (R175). -/
def State.checkHostFrame (s : State) (frame : List Byte) : State :=
  let covered := (frame.drop 1).take (frame.length - 3)
  let length := fieldAt frame 1 2
  let r : Request := ⟨fieldAt frame 3 1, fieldAt frame 4 2, (frame.drop 6).take (frame.length - 8)⟩
  if 3 ≤ length ∧ length ≤ 134 ∧ frame.drop (frame.length - 2) = wordBytes (crcBytes covered) then
    s.judge r.kind r.tag (r.payload.length == requiredLength r.kind r.payload) (readRequest r)
  else s.badFrame

/-- The state with a receive buffer. -/
def State.setHostRx (s : State) (rx : List Byte) : State := { s with port := { s.port with rx := rx } }

/-- The frame in the receive buffer has all its bytes. -/
def hostFrameWhole (rx : List Byte) : Bool := decide (3 ≤ rx.length) && decide (fieldAt rx 1 2 + 5 ≤ rx.length)

/-- One byte arrives on HP-RX (R175, R186). -/
def State.receiveByte (s : State) (b : Byte) : State :=
  match s.port.rx with
  | [] => if b = 0xA5 then s.setHostRx [b] else s
  | x :: xs =>
    let rx := x :: xs
    if b = 0xA5 ∧ rx.length ≤ 2 then (s.setHostRx []).badFrame.setHostRx [b]
    else if hostFrameWhole (rx ++ [b]) then (s.setHostRx []).checkHostFrame (rx ++ [b])
    else s.setHostRx (rx ++ [b])

/-- A request frame arrives and is checked, given by its row, whatever part of another frame is in the receive buffer
(log 3). A frame longer than R186 allows fails. -/
def State.arrive (s : State) (c : Instr) : State :=
  match requestOf c with
  | none => s
  | some r =>
    if 131 < r.payload.length then s.badFrame
    else s.judge r.kind r.tag (r.payload.length == requiredLength r.kind r.payload) (some c)

/-- The request `c` is in service and its block has it (R177; log 3). -/
def State.hasHanded (s : State) (c : Instr) : Bool :=
  match s.port.service with
  | some v => v.handed == some c
  | none => false

/-- The request in service goes to its block's event. -/
def State.takeUp (s : State) : State :=
  { s with port := { s.port with service := s.port.service.map fun v => { v with handed := none } } }

/-- A request row: the event of its block, on the state with the request in service; where its frame has not been
checked before, the frame arrives first (log 3). -/
def State.request (s : State) (c : Instr) (own : State → State) : State :=
  if s.hasHanded c then own s.takeUp
  else
    let s1 := s.arrive c
    if s1.hasHanded c then own s1.takeUp else s1

/-! ### The end of a reply -/

/-- The next answer begins to leave: a due owed answer, else the oldest that waits (R174, R178; log 10). -/
def HostPort.next (p : HostPort) : HostPort :=
  match p.owed.find? OwedAnswer.due, p.ready with
  | some o, _ => { p with line := some ⟨.owed, o.kind, o.tag, o.outcome, []⟩ }
  | none, a :: rest => { p with line := some a, ready := rest }
  | none, [] => { p with line := none }

/-- The reply of the request in service has gone out: the port is IDLE and every owed answer is due (R174). -/
def HostPort.replyGone (p : HostPort) : HostPort :=
  { p with service := none, owed := p.owed.map fun o => { o with due := true } }

/-- A waiting answer leaves after a warm restart all the same: it answers a frame that was not taken, or it is the OK reply
of a FILL, whose event is made; the reply of a FILL refused ends with its request (R19, R185; log 11). -/
def Answer.survives (a : Answer) : Bool := a.role == .plain || a.kind == 8 && a.outcome == .ok

/-- The port after a warm restart (R19, R174, R185; log 11). -/
def HostPort.restarted (p : HostPort) : HostPort :=
  { p with
    service := none
    owed := []
    line := p.line.map fun a => { a with role := .plain }
    ready := (p.ready.filter Answer.survives).map fun a => { a with role := .plain } }

end Sys2Proof.Machine
end

