-- ==== Sys2Proof/Machine/Links.lean ====
section
/-! DEFINITION. The transmit side of a link controller (9.3, 9.4): the two queues and the arbiter. -/

namespace Sys2Proof.Machine

/-- A frame begins to leave: it is no longer in its queue, and the idle timer is at 0 (R155, R160). -/
def Link.depart (l : Link) (time : Nat) (f : LinkFrame) (q : LinkQueue) : Link :=
  { l with leaving := some (f, q), idleFrom := time }

/-- The arbiter's choice when the line is quiet: control first, then bulk, else the line stays quiet (R159). -/
def Link.arbitrate (l : Link) (time : Nat) : Link :=
  match l.leaving, l.control, l.bulk with
  | some _, _, _ => l
  | none, f :: rest, _ => ({ l with control := rest } : Link).depart time f .control
  | none, [], f :: rest => ({ l with bulk := rest } : Link).depart time f .bulk
  | none, [], [] => l

/-- The frame is a DIGEST. -/
def LinkFrame.isDigest (f : LinkFrame) : Bool :=
  match f.body with
  | .digest _ _ _ => true
  | .joinAsk => false
  | .joinOffer _ => false
  | .joinDecline _ => false
  | .joinAbort _ => false
  | .page _ _ _ => false
  | .lockImage _ => false
  | .syncMark _ _ => false
  | .idleFill => false

/-- The control queue with a frame put at its newest end; in a full queue the oldest DIGEST makes room, and with no
DIGEST in it the new frame is discarded (R157). -/
def controlPut (queue : List LinkFrame) (f : LinkFrame) : List LinkFrame :=
  if queue.length < Config.controlCapacity then queue ++ [f]
  else if queue.any LinkFrame.isDigest then queue.eraseP LinkFrame.isDigest ++ [f]
  else queue

/-- A control frame queued, and chosen at once if the line is quiet (R157, R159). -/
def Link.putControl (l : Link) (time : Nat) (f : LinkFrame) : Link :=
  ({ l with control := controlPut l.control f } : Link).arbitrate time

/-- A bulk frame queued, and chosen at once if the line is quiet (R158, R159). -/
def Link.putBulk (l : Link) (time : Nat) (f : LinkFrame) : Link :=
  ({ l with bulk := l.bulk ++ [f] } : Link).arbitrate time

/-- A frame of the part's own lane number put on the control queue of a port (R157). -/
def State.putControl (s : State) (port : LinkPort) (body : LinkBody) : State :=
  s.setLink port ((s.link port).putControl s.time ⟨s.config.lane, body⟩)

/-- A frame of the part's own lane number put on the bulk queue of a port (R158). -/
def State.putBulk (s : State) (port : LinkPort) (body : LinkBody) : State :=
  s.setLink port ((s.link port).putBulk s.time ⟨s.config.lane, body⟩)

/-- The bulk queue of a port has room (R158). -/
def State.bulkRoom (s : State) (port : LinkPort) : Bool := (s.link port).bulk.length < Config.bulkCapacity

/-- The waiting frames of both queues of a link removed; a frame leaving is sent whole (R165). -/
def Link.emptied (l : Link) : Link := { l with control := [], bulk := [] }

/-- A frame or its contents counted as a frame check failure, with LINK raised (R161, R162). -/
def State.checkFail (s : State) (port : LinkPort) : State :=
  (s.setLink port { s.link port with errors := bump 255 (s.link port).errors }).raise
    (.link (s.peerLane port) .checkFail)

end Sys2Proof.Machine
end

