-- ==== Sys2Proof/Machine/Lane.lean ====
section
/-! DEFINITION. The lane controller's shared operations: the end of a serve, leaving SERVICE, entering STOPPED, and stop
requests (R144, R112, R124, R125). -/

namespace Sys2Proof.Machine

/-- A serve ended early: the bulk queue of the receiver's link withdrawn, a JOIN-ABORT queued where one is given, the
record IDLE, the receiver's peer record no longer JOINING, RESTORE raised (R144, R158). Every waiting bulk frame goes, those
of an earlier serve that ended SERVED among them (R158 against R144; log 46, DESIGN CHOICE). -/
def State.endServe (s : State) (reason : RestoreReason) (abort : Option RestoreReason) : State :=
  match s.serve with
  | none => s
  | some v =>
    let s1 := s.setLink v.receiver { s.link v.receiver with bulk := [] }
    let s2 := match abort with
      | some r => s1.putControl v.receiver (.joinAbort r)
      | none => s1
    let s3 : State := { s2 with serve := none }
    let s4 := if (s3.peer v.receiver).state = .joining then s3.setPeer v.receiver { s3.peer v.receiver with state := .absent }
      else s3
    s4.raise (.restore .donor .aborted (some reason) s4.vote.lastClosed)

/-- The held digests of both peers dropped (R105, R112). -/
def State.dropHeld (s : State) : State :=
  { s with peerU := { s.peerU with held := none }, peerV := { s.peerV with held := none } }

/-- The lane leaves SERVICE: an open vote is dropped undecided (R112). -/
def State.leaveService (s : State) : State :=
  match s.vote.state with
  | .opened => ({ s with vote := { s.vote with state := .none, window := none } } : State).dropHeld
  | .none => s
  | .decided => s

/-- The VOTE detail of an entry to STOPPED (R126). After a verdict that stops the lane, the last verdict record is that
verdict's. -/
def State.stopDetail (s : State) (cause : StopCause) : Detail :=
  match s.vote.lastVerdict with
  | some v => .vote v.cycle (some v.verdict) (some v.participants) v.odd (some cause)
  | none => .vote s.vote.lastClosed none none none (some cause)

/-- The lane enters STOPPED (R125, R126, R132). `region` is the region of the pass, for cause SILENT. -/
def State.enterStopped (s : State) (cause : StopCause) (region : Nat) : State :=
  let s1 : State := { s with lane := ⟨some .stopped, false, some cause, none⟩ }
  let s2 := (s1.leaveService.endServe .donorLeft (some .donorLeft))
  let s3 : State := { s2 with join := none, health := ⟨none, false⟩ }
  let s4 := s3.raise (s3.stopDetail cause)
  if cause = .silent then s4.raise (.store none region .vital .patrol) else s4

/-- A stop request (R124). -/
def State.stopRequest (s : State) (cause : StopCause) (region : Nat) : State :=
  match s.lane.mode with
  | some .service => if cause = .joinFailed then s else s.enterStopped cause region
  | some .joining => if cause = .joinFailed then s.enterStopped cause region else s
  | some .offline => s
  | some .stopped => s
  | none => s

end Sys2Proof.Machine
end

