-- ==== Sys2Proof/Machine/Store.lean ====
section
/-! DEFINITION. The accesses to the protected store (chapter 1): correcting reads with what the store reports, writes
with their hand-on to the digest and patrol units, and the poison list. -/

namespace Sys2Proof.Machine

/-- The frame backs a page whose entry is ACTIVE (R32, R34). -/
def State.backsActive (s : State) (frame : Nat) : Bool :=
  match (s.frame frame).page with
  | some p => s.page p == .active frame
  | none => false

/-- A correctable read is reported to the map unit, with the frame's count after it (R32). -/
def State.reportCorrection (s : State) (frame count : Nat) : State :=
  if s.config.retire ≤ count && s.backsActive frame && !s.moveQueue.contains frame &&
      decide (s.moveQueue.length < Config.moveQueueCapacity) then
    { s with moveQueue := s.moveQueue ++ [frame] }
  else s

/-- A LANE page marked POISONED (R14). -/
def PageEntry.markPoisoned : PageEntry → PageEntry
  | .active f => .poisoned f
  | .moving f g c _ r => .moving f g c true r
  | .unmapped => .unmapped
  | .restoring f => .restoring f
  | .poisoned f => .poisoned f

/-- A page released from POISONED or from the poisoned mark (R15). -/
def PageEntry.releasePoisoned : PageEntry → PageEntry
  | .poisoned f => .active f
  | .moving f g c _ r => .moving f g c false r
  | .unmapped => .unmapped
  | .active f => .active f
  | .restoring f => .restoring f

/-- A LANE word found DOUBLE is put to the poison list (R10, R14). -/
def State.poisonWord (s : State) (page offset : Nat) (source : StoreSource) : State :=
  let address := page * 256 + offset
  if s.poison.any (fun e => e.address == address) then s
  else if s.poison.length < Config.poisonCapacity then
    { s with poison := s.poison ++ [⟨address, source, s.vote.lastClosed⟩] }
  else s.setPage page (s.page page).markPoisoned

/-- A correcting read has found a word DOUBLE: STORE raised, then a stop request for a VITAL word, or the poison list
for a LANE word (R8, R9, R10). -/
def State.uncorrectable (s : State) (page offset : Nat) (source : StoreSource) : State :=
  match s.regionOf page with
  | none => s
  | some (id, r) =>
    let s1 := s.raise (.store (some (page * 256 + offset)) id r.cls source)
    match r.cls with
    | .vital => s1.stopRequest .store id
    | .lane => s1.poisonWord page offset source

/-- A correcting read of a word of a frame, for a page (R7). It delivers the stored value, or none for a DOUBLE word. -/
def State.readCell (s : State) (frame page offset : Nat) (source : StoreSource) : State × Option Word :=
  let c := s.cell frame offset
  match c.content with
  | .clean v => (s, some v)
  | .single v =>
    let f := s.frame frame
    let count := bump 255 f.count
    let s1 := (s.setCell frame offset ⟨c.written, .clean v⟩).setFrame frame { f with count := count }
    (s1.reportCorrection frame count, some v)
  | .double => (s.uncorrectable page offset source, none)

/-- A correcting read by page and offset, through the page map and the cursor rule (R20, R36). A word of an UNMAPPED
page delivers nothing (log 24). -/
def State.readWord (s : State) (page offset : Nat) (source : StoreSource) : State × Option Word :=
  match (s.page page).frameAt offset with
  | some frame => s.readCell frame page offset source
  | none => (s, none)

/-- Correcting reads of `n` words of a page from `offset` upwards; they end at the first word that delivers nothing
(log 18). -/
def State.readRun (s : State) (page : Nat) (source : StoreSource) : Nat → Nat → State × Option (List Word)
  | _, 0 => (s, some [])
  | offset, n + 1 =>
    match s.readWord page offset source with
    | (s1, none) => (s1, none)
    | (s1, some w) =>
      match s1.readRun page source (offset + 1) n with
      | (s2, none) => (s2, none)
      | (s2, some ws) => (s2, some (w :: ws))

/-- The pass accumulator after a write at region offset `i` of region `id` (R62). -/
def Patrol.adjust (p : Patrol) (id i : Nat) (term : Digest) : Patrol :=
  match p.pass with
  | some q => if q.region = id ∧ i < q.cursor then { p with pass := some { q with acc := q.acc + term } } else p
  | none => p

/-- A write handed on to the digest unit and the patrol unit (R5, R46, R62). -/
def State.handOn (s : State) (page offset : Nat) (v v' : Word) : State :=
  match s.regionOf page with
  | none => s
  | some (id, r) =>
    let i := r.offsetOf page offset
    let term := changeTerm r.seed i v v'
    { s.setRegion id (some { r with live := r.live + term }) with patrol := s.patrol.adjust id i term }

/-- The words of the store after a write by page and offset: in the frame the cursor rule gives, and below the move
cursor in the old frame as well (R36). -/
def State.storeWord (s : State) (page offset : Nat) (v : Word) : State :=
  let s1 := match (s.page page).frameAt offset with
    | some f => s.setCell f offset (Cell.write v)
    | none => s
  match (s.page page).alsoWritten offset with
  | some f => s1.setCell f offset (Cell.write v)
  | none => s1

/-- A write by page and offset, with its hand-on (R5, R36). A word of an UNMAPPED page takes nothing (log 24). -/
def State.writeWord (s : State) (page offset : Nat) (v : Word) : State :=
  if (s.page page).mapped then (s.storeWord page offset v).handOn page offset (s.writtenAt page offset) v else s

/-- Writes of a run of words of a page from `offset` upwards. -/
def State.writeRun (s : State) (page : Nat) : Nat → List Word → State
  | _, [] => s
  | offset, w :: ws => (s.writeWord page offset w).writeRun page (offset + 1) ws

/-- The poison entry of a word removed, by a host WRITE of it (R13). -/
def State.clearPoisonWord (s : State) (page offset : Nat) : State :=
  { s with poison := s.poison.filter (fun e => e.address != page * 256 + offset) }

/-- Every poison entry of a page removed, by FILL or unmapping (R13). -/
def State.clearPoisonPage (s : State) (page : Nat) : State :=
  { s with poison := s.poison.filter (fun e => e.address / 256 != page) }

end Sys2Proof.Machine
end

