-- ==== Sys2Proof/Machine/Locks.lean ====
section
/-! DEFINITION. The lock table's events: arm, cancel, the advance at a close, the taking of a lock image and the clearing
of the table (chapter 5). -/

namespace Sys2Proof.Machine

/-- A record started (R75). -/
def LockRecord.start (r : LockRecord) (mode : LockMode) (gate : Option Nat) (preset : Nat) : LockRecord :=
  { r with timer := ⟨.running, some mode, gate, preset, none, preset, false⟩ }

/-- A record cancelled: its count becomes the release value, and it is IDLE (R77, R78). -/
def LockRecord.cancel (r : LockRecord) : LockRecord :=
  ⟨.idle, some r.timer.remaining, r.overwritten || r.release.isSome⟩

/-- The release fields collected by LOCK-READ (R79). -/
def LockRecord.collect (r : LockRecord) : LockRecord := { r with release := none, overwritten := false }

/-- A preset as applied, 1 to 60000 (R74). -/
def clampPreset (n : Nat) : Nat := max 1 (min 60000 n)

/-- The gate addresses an advance reads: of every record RUNNING in PAUSE or REARM, in index order, each once (R82). -/
def gatesToRead (rs : List LockRecord) : List Nat :=
  rs.foldl (fun gs r =>
    match r.timer.state, r.timer.mode, r.timer.gate with
    | .running, some .pause, some g => if gs.contains g then gs else gs ++ [g]
    | .running, some .rearm, some g => if gs.contains g then gs else gs ++ [g]
    | _, _, _ => gs) []

/-- The gate value a record uses: zero or not (R82). -/
def gateZero (values : List (Nat × Word)) (gate : Option Nat) : Bool :=
  match gate with
  | some g => ((values.find? (fun e => e.1 == g)).map Prod.snd).getD 0 == 0
  | none => false

/-- A step of a RUNNING record that counts, which is its expiry when it reaches 0 (R84, R86). -/
def LockTimer.count (t : LockTimer) : LockTimer × Option LockEvent :=
  if t.remaining ≤ 1 then ({ t with state := .expired, remaining := 0, pending := none }, some .expired)
  else ({ t with remaining := t.remaining - 1 }, none)

/-- A REARM record reloaded at a zero gate (R85). -/
def LockTimer.reload (t : LockTimer) : LockTimer :=
  let preset := t.pending.getD t.preset
  { t with preset := preset, pending := none, remaining := preset }

/-- The step of an EXPIRED record, limited at -4095 (R87). -/
def LockTimer.sink (t : LockTimer) : LockTimer × Option LockEvent :=
  if t.remaining > -4095 then ({ t with remaining := t.remaining - 1 }, none)
  else if t.overrange then ({ t with remaining := -4095 }, none)
  else ({ t with remaining := -4095, overrange := true }, some .overrange)

/-- The step of one record in the second part of the advance, with the LOCK event it raises (R84 to R87). -/
def LockTimer.step (t : LockTimer) (values : List (Nat × Word)) : LockTimer × Option LockEvent :=
  match t.state, t.mode with
  | .idle, _ => (t, none)
  | .expired, _ => t.sink
  | .running, some .plain => t.count
  | .running, some .pause => if gateZero values t.gate then (t, none) else t.count
  | .running, some .rearm => if gateZero values t.gate then (t.reload, none) else t.count
  | .running, none => (t, none)

/-- The step of the record at an index, with its LOCK raise (R81, R88). -/
def State.stepLock (values : List (Nat × Word)) (s : State) (index : Nat) : State :=
  let r := s.lock index
  let s1 := s.setLock index { r with timer := (r.timer.step values).1 }
  match (r.timer.step values).2 with
  | some e => s1.raise (.lock index e)
  | none => s1

/-- The second part of the advance: every record in index order (R81, R88). -/
def State.stepLocks (s : State) (values : List (Nat × Word)) : State := (List.range 48).foldl (State.stepLock values) s

/-- Every record IDLE, with its release fields clear (R91). -/
def State.clearLocks (s : State) : State := { s with locks := Vector.replicate 48 LockRecord.cleared }

/-- The address lies in a page of a VITAL region (R74, R90). -/
def State.goodGate (s : State) (gate : Nat) : Bool := decide (gate < Config.addressCount) && s.isVital (gate / 256)

/-- A record of a lock image against the field rules of R72 (R90; log 22). -/
def State.timerFits (s : State) (t : LockTimer) : Bool :=
  match t.state with
  | .idle =>
    t.mode == none && t.gate == none && t.preset == 0 && t.pending == none && t.remaining == 0 && t.overrange == false
  | .running =>
    decide (1 ≤ t.preset ∧ t.preset ≤ 60000) && decide (1 ≤ t.remaining ∧ t.remaining ≤ t.preset) && !t.overrange &&
      (match t.mode, t.gate with
        | some .plain, none => true
        | some .pause, some g => s.goodGate g
        | some .rearm, some g => s.goodGate g
        | _, _ => false) &&
      (match t.pending with
        | none => true
        | some p => t.mode == some .rearm && decide (1 ≤ p ∧ p ≤ 60000))
  | .expired =>
    decide (1 ≤ t.preset ∧ t.preset ≤ 60000) && decide (-4095 ≤ t.remaining ∧ t.remaining ≤ 0) &&
      (!t.overrange || t.remaining == -4095) && t.pending == none &&
      (match t.mode, t.gate with
        | some .plain, none => true
        | some .pause, some g => s.goodGate g
        | some .rearm, some g => s.goodGate g
        | _, _ => false)

/-- The 48 records replaced by those of a lock image, release fields clear (R90). -/
def State.takeImage (s : State) (ts : List LockTimer) : State :=
  { s with locks := s.locks.mapIdx (fun k r => ⟨(ts[k]?).getD r.timer, none, false⟩) }

end Sys2Proof.Machine
end

