-- ==== Sys2Proof/Machine/PatrolWalk.lean ====
section
/-! DEFINITION. The walk of the patrol unit (chapter 4): eligibility, selection, and the early end of a pass. -/

namespace Sys2Proof.Machine

/-- The region of an id is eligible for a pass (R57). A CLEAN VITAL region is eligible although its pages are RESTORING, as a
warm restart that waited for the mapping of an OPEN JOIN leaves them (R26; log 42). -/
def State.eligible (s : State) (id : Nat) : Bool :=
  match s.region id with
  | none => false
  | some r => r.pages.all (fun p => (s.page p).mapped) && !(r.cls == .vital && r.state == .incomplete)

/-- The ids in the order a selection looks at them (R58). -/
def walkOrder (walk : Option Nat) : List Nat :=
  match walk with
  | none => List.range 16
  | some w => (List.range 16).map (fun k => (w + 1 + k) % 16)

/-- A new pass of a region (R58). -/
def Pass.begin (id : Nat) : Pass := ⟨id, 0, 0, false⟩

/-- A selection, with no pass under way: the next eligible region in the walk begins a pass, or the patrol waits. With
P = 0 no selection is made (R58, R59). -/
def State.selectPass (s : State) : State :=
  if s.config.pace = 0 then { s with patrol := { s.patrol with pass := none } }
  else
    match (walkOrder s.patrol.walk).find? (fun id => s.eligible id) with
    | some id => { s with patrol := ⟨some id, some (Pass.begin id)⟩ }
    | none => { s with patrol := { s.patrol with pass := none } }

/-- A selection, if the patrol is WAITING (R58). -/
def State.selectIfWaiting (s : State) : State :=
  match s.patrol.pass with
  | none => s.selectPass
  | some _ => s

/-- A pass under way on region `id` ends with no comparison, and a selection is made (R68, R69). -/
def State.endPassOn (s : State) (id : Nat) : State :=
  match s.patrol.pass with
  | some p => if p.region = id then ({ s with patrol := { s.patrol with pass := none } } : State).selectPass else s
  | none => s

/-- A pass under way on region `id` ends, and a new pass of the same region begins at once (R70). -/
def State.restartPassOn (s : State) (id : Nat) : State :=
  match s.patrol.pass with
  | some p => if p.region = id then { s with patrol := { s.patrol with pass := some (Pass.begin id) } } else s
  | none => s

/-- The end of a pass over region record `r`: the comparison of an unspoiled pass with the live digest, and what an
unequal figure brings about (R64, R65, R66). -/
def State.judgePass (s : State) (p : Pass) (r : Region) : State :=
  if p.spoiled ∨ p.acc = r.live then s
  else
    match r.cls with
    | .vital => (s.raise (.patrol p.region .silent)).stopRequest .silent p.region
    | .lane => (s.raise (.patrol p.region .suspect)).setRegion p.region (some { r with state := .suspect })

/-- The pass record after the step that read a value at the cursor, or none from a DOUBLE word (R60, R61). -/
def Pass.step (p : Pass) (seed : Nat) (value : Option Word) : Pass :=
  match value with
  | some u => { p with acc := p.acc + Fin.ofNat 65537 (u.toNat + 1) * weight seed p.cursor, cursor := p.cursor + 1 }
  | none => { p with spoiled := true, cursor := p.cursor + 1 }

/-- A patrol step (R60, R61), which ends the pass when it takes the cursor to the last word (R64). -/
def State.patrolStep (s : State) : State :=
  match s.patrol.pass with
  | none => s
  | some p =>
    match s.region p.region with
    | none => s
    | some r =>
      if s.config.pace = 0 then s
      else
        let (s1, value) := s.readWord (r.first + p.cursor / 256) (p.cursor % 256) .patrol
        let p1 := p.step r.seed value
        let s2 : State := { s1 with patrol := { s1.patrol with pass := some p1 } }
        if p1.cursor < r.words then s2 else (s2.judgePass p1 r).selectPass

end Sys2Proof.Machine
end

