-- ==== Sys2Proof/Machine/Map.lean ====
section
/-! DEFINITION. The map unit's shared operations (chapter 2): allocation and freeing of frames, abandonment and end of a
move, and the unmapping of a region. -/

namespace Sys2Proof.Machine

/-- The lowest-numbered FREE frame (R28). -/
def State.lowestFree (s : State) : Option Nat := (List.range 128).find? (fun f => (s.frame f).state == .free)

/-- All 256 words of a frame written to 0, CLEAN (R17). -/
def State.zeroFillFrame (s : State) (frame : Nat) : State :=
  { s with mem := s.mem.clear (frame * 256) (frame * 256 + 256) }

/-- A FREE frame allocated for a page: IN_USE, zero-filled, its count kept (R28). -/
def State.allocate (s : State) (frame page : Nat) : State :=
  (s.zeroFillFrame frame).setFrame frame { s.frame frame with state := .inUse, page := some page }

/-- A frame that stops backing a page freed: FREE, or RETIRED with a RETIRE raise if it was WORN (R29). -/
def State.freeFrame (s : State) (frame page : Nat) : State :=
  let f := s.frame frame
  if f.worn then
    (s.setFrame frame { f with state := .retired, worn := false, page := none }).raise (.retire frame page .retired)
  else s.setFrame frame { f with state := .free, page := none }

/-- A move abandoned: the new frame freed, the page back on its old frame by its marks, the engine idle (R39). -/
def State.abandonMove (s : State) (page : Nat) : State :=
  match s.page page with
  | .moving f g _ poisonedMark restoringMark =>
    { (s.freeFrame g page).setPage page (settledEntry f poisonedMark restoringMark) with moving := none }
  | .unmapped => s
  | .active _ => s
  | .restoring _ => s
  | .poisoned _ => s

/-- A frame taken out of the move queue (R33). -/
def State.unqueue (s : State) (frame : Nat) : State := { s with moveQueue := s.moveQueue.filter (fun f => f != frame) }

/-- A page that is not MOVING unmapped: its frame freed and unqueued, its poison entries removed (R23). -/
def State.unmapSettled (s : State) (page : Nat) : State :=
  match (s.page page).frameAt 0 with
  | some f => (((s.freeFrame f page).setPage page .unmapped).unqueue f).clearPoisonPage page
  | none => s.clearPoisonPage page

/-- A page unmapped; a move of it is abandoned first, with RETIRE raised (R23, R39; log 23). -/
def State.unmapPage (s : State) (page : Nat) : State :=
  match s.page page with
  | .moving f _ _ _ _ => ((s.abandonMove page).raise (.retire f page .abandoned)).unmapSettled page
  | .unmapped => s.unmapSettled page
  | .active _ => s.unmapSettled page
  | .restoring _ => s.unmapSettled page
  | .poisoned _ => s.unmapSettled page

/-- A defined region unmapped, page by page in ascending order, its record dropped, and a pass on it ended (R23, R68). -/
def State.unmapRegion (s : State) (id : Nat) (r : Region) : State :=
  ((r.pages.foldl State.unmapPage s).setRegion id none).endPassOn id

/-- The step that takes the cursor to 256 ends the move: the page on its new frame by its marks, the old frame RETIRED
with a RETIRE raise, the engine idle (R38). -/
def State.endMove (s : State) (page old new : Nat) (poisonedMark restoringMark : Bool) : State :=
  let s1 := s.setPage page (settledEntry new poisonedMark restoringMark)
  let s2 := s1.setFrame old { s1.frame old with state := .retired, worn := false, page := none }
  { s2.raise (.retire old page .retired) with moving := none }

/-- The take of the oldest queue entry (R34). A frame that no longer backs an ACTIVE page is discarded. -/
def State.takeMove (s : State) (frame : Nat) (rest : List Nat) : State :=
  let s1 : State := { s with moveQueue := rest }
  match (s.frame frame).page with
  | none => s1
  | some page =>
    if s.page page = .active frame then
      match s.lowestFree with
      | none => (s1.setFrame frame { s.frame frame with worn := true }).raise (.retire frame page .sparesExhausted)
      | some spare =>
        { (s1.allocate spare page).setPage page (.moving frame spare 0 false false) with moving := some page }
    else s1

/-- A move step at the word under the cursor (R35, R37), which ends the move when it takes the cursor to 256 (R38). -/
def State.stepMove (s : State) (page : Nat) : State :=
  match s.page page with
  | .moving f g cursor _ _ =>
    let (s1, _) := s.readCell f page cursor .move
    let s2 := s1.setCell g cursor (s1.cell f cursor).copy
    match s2.page page with
    | .moving _ _ _ poisonedMark restoringMark =>
      if cursor + 1 < 256 then s2.setPage page (.moving f g (cursor + 1) poisonedMark restoringMark)
      else s2.endMove page f g poisonedMark restoringMark
    | .unmapped => s2
    | .active _ => s2
    | .restoring _ => s2
    | .poisoned _ => s2
  | .unmapped => s
  | .active _ => s
  | .restoring _ => s
  | .poisoned _ => s

end Sys2Proof.Machine
end

