-- ==== Sys2Proof/Machine/Transfer.lean ====
section
/-! DEFINITION. The transfer engine (chapter 8): the donor's record through asks, writes, closes, verdicts and sends, and
the receiver's attempts and landings. -/

namespace Sys2Proof.Machine

/-! ### The donor -/

/-- A JOIN-ASK declined (R135). -/
def State.declineAsk (s : State) (port : LinkPort) (reason : RestoreReason) : State :=
  (s.putControl port (.joinDecline reason)).raise (.restore .donor .declined (some reason) s.vote.lastClosed)

/-- The serve record as an accepted ask makes it (R136). -/
def Serve.begin (receiver : LinkPort) (vitalPages : List Nat) : Serve where
  receiver := receiver
  phase := .bulk
  dirty := vitalPages
  sentOnce := []
  cursor := 0
  inSend := none
  pendingCycle := none
  finalSet := []
  fullySent := []
  slots := []
  lockImage := none
  keptList := none
  finalCycle := 0
  lockImageQueued := false
  convergence := 0

/-- A JOIN-ASK accepted (R136). -/
def State.acceptAsk (s : State) (port : LinkPort) : State :=
  let s1 := s.putControl port (.joinOffer s.vitalPages.length)
  let s2 : State := { s1 with serve := some (Serve.begin port s.vitalPages) }
  (s2.setPeer port { s2.peer port with state := .joining }).raise (.restore .donor .accepted none s.vote.lastClosed)

/-- The last verdict record is present and holds AGREED (R135). -/
def State.lastAgreed (s : State) : Bool :=
  match s.vote.lastVerdict with
  | some v => v.verdict == .agreed
  | none => false

/-- A JOIN-ASK judged by the checks of R135 after its lane number. -/
def State.judgeAsk (s : State) (port : LinkPort) : State :=
  if !s.config.serveEnable then s.declineAsk port .notEnabled
  else if !(s.inService && s.lane.confirmed) then s.declineAsk port .notServing
  else if s.serve.isSome then s.declineAsk port .busyServing
  else if !s.lastAgreed then s.declineAsk port .notAgreed
  else s.acceptAsk port

/-- The serve under way is to the peer at this port. -/
def State.serving (s : State) (port : LinkPort) : Bool :=
  match s.serve with
  | some v => v.receiver == port
  | none => false

/-- A JOIN-ASK handed to the engine; one from the receiver of the serve under way ends that serve first (R135). One of a wrong
lane number ends no serve, whatever link it comes over (log 43). -/
def State.joinAsked (s : State) (port : LinkPort) (sender : Nat) : State :=
  if sender ≠ s.peerLane port then s.checkFail port
  else if s.serving port then (s.endServe .askedAgain none).judgeAsk port
  else s.judgeAsk port

/-- The slot of a page, if it has one (R134). -/
def Serve.slotOf (v : Serve) (page : Nat) : Option Slot := v.slots.find? (fun x => x.page == page)

/-- A write to the page takes a before-image (R141): a decision pends or the serve is in FINAL, the page is in the final
set, its send has not ended, and it holds no slot. -/
def Serve.captures (v : Serve) (page : Nat) : Bool :=
  (v.pendingCycle.isSome || v.phase == .final) && v.finalSet.contains page && !v.fullySent.contains page &&
    (v.slotOf page).isNone

/-- The serve record with a page captured in a slot; a page in send goes on from the slot (R141, R142). -/
def Serve.withSlot (v : Serve) (page : Nat) (words : List Word) : Serve :=
  { v with
    slots := v.slots ++ [⟨page, words⟩]
    inSend := v.inSend.map fun x => if x.page = page then { x with fromSlot := true } else x }

/-- The capture that a host write to a page makes before it, if it makes one (R141). -/
def State.capture (s : State) (page : Nat) : State :=
  match s.serve with
  | none => s
  | some v =>
    if v.captures page then
      match s.readRun page .capture 0 256 with
      | (s1, some words) => { s1 with serve := s1.serve.map fun w => w.withSlot page words }
      | (s1, none) => s1
    else s

/-- The dirty set after the hand-on of a host write to a VITAL page (R138, R139). -/
def Serve.marked (v : Serve) (page : Nat) : Serve :=
  match v.phase, v.pendingCycle with
  | .bulk, none => { v with dirty := setInsert page v.dirty }
  | .bulk, some _ => if v.finalSet.contains page then v else { v with dirty := setInsert page v.dirty }
  | .final, _ => v

/-- The hand-on of a host write to a VITAL page (R138, R139). -/
def State.markDirty (s : State) (page : Nat) : State := { s with serve := s.serve.map fun v => v.marked page }

/-- The sent-once set covers every VITAL page (R139). -/
def State.firstPassDone (s : State) (v : Serve) : Bool := setCovered s.vitalPages v.sentOnce

/-- The candidate final set: the dirty set with the page in send (R139). -/
def Serve.candidate (v : Serve) : List Nat :=
  match v.inSend with
  | some x => setInsert x.page v.dirty
  | none => v.dirty

/-- The convergence count after a completed close (R139). -/
def Serve.counted (v : Serve) (covered : Bool) : Serve :=
  if covered then { v with convergence := bump Config.convergenceLimit v.convergence } else v

/-- The final decision prepared for the close of `n` (R139). -/
def Serve.prepare (v : Serve) (n : Nat) (image : List LockTimer) (list : Option DigestList) : Serve :=
  { v with
    pendingCycle := some n
    finalCycle := n
    finalSet := v.candidate
    fullySent := []
    inSend := none
    dirty := []
    lockImage := some image
    keptList := list }

/-- The completion of the own close of `n` told to the engine (R139). -/
def State.closeCompleted (s : State) (n : Nat) : State :=
  match s.serve with
  | none => s
  | some v =>
    match v.phase, v.pendingCycle with
    | .bulk, none =>
      let covered := s.firstPassDone v
      let v1 := v.counted covered
      if covered && decide (v1.candidate.length ≤ s.config.finalLimit) then
        { s with serve := some (v1.prepare n s.lockImage s.vote.ownList) }
      else { s with serve := some v1 }
    | .bulk, some _ => s
    | .final, _ => s

/-- The pending decision confirmed by an AGREED verdict (R140). -/
def Serve.confirm (v : Serve) : Serve := { v with phase := .final, pendingCycle := none, dirty := [] }

/-- The pending decision withdrawn by a PEER-DIVERGENT verdict (R140). -/
def Serve.withdraw (v : Serve) : Serve :=
  { v with
    dirty := setUnion v.finalSet v.dirty
    slots := []
    finalSet := []
    fullySent := []
    lockImage := none
    keptList := none
    pendingCycle := none }

/-- The serve record after a verdict on cycle `n` that leaves the lane in SERVICE (R140). -/
def Serve.judged (v : Serve) (agreed : Bool) (n : Nat) : Serve :=
  if v.phase = .bulk ∧ v.pendingCycle = some n then (if agreed then v.confirm else v.withdraw) else v

/-- A verdict that leaves the lane in SERVICE handed to the engine (R140), with the convergence limit (R143). -/
def State.verdictHanded (s : State) (agreed : Bool) (n : Nat) : State :=
  match s.serve with
  | none => s
  | some v =>
    let v1 := v.judged agreed n
    let s1 : State := { s with serve := some v1 }
    if v1.phase = .bulk ∧ v1.convergence = Config.convergenceLimit then s1.endServe .noConvergence (some .noConvergence)
    else s1

/-- The page that a BULK search takes: the lowest of the dirty set at or above the cursor, else the lowest (R137). -/
def Serve.nextDirty (v : Serve) : Option Nat :=
  match v.dirty.find? (fun p => v.cursor ≤ p) with
  | some p => some p
  | none => v.dirty.head?

/-- The record with a page in send, chosen if none is; none when there is nothing to send (R137). -/
def Serve.chooseBulk (v : Serve) : Option (Serve × InSend) :=
  match v.inSend with
  | some x => some (v, x)
  | none =>
    match v.nextDirty with
    | none => none
    | some p =>
      let x : InSend := ⟨p, 0, false⟩
      some ({ v with dirty := setErase p v.dirty, cursor := if p + 1 < 120 then p + 1 else 0, inSend := some x }, x)

/-- The record after a PAGE frame of `n` words of the page in send is queued in BULK (R137). -/
def Serve.sentBulk (v : Serve) (x : InSend) (n : Nat) : Serve :=
  if x.next + n < 256 then { v with inSend := some { x with next := x.next + n } }
  else { v with sentOnce := setInsert x.page v.sentOnce, inSend := none }

/-- A send step in BULK (R137). -/
def State.sendStep (s : State) : State :=
  match s.serve with
  | none => s
  | some v =>
    match v.phase, v.pendingCycle, s.bulkRoom v.receiver, v.chooseBulk with
    | .bulk, none, true, some (v1, x) =>
      match ({ s with serve := some v1 } : State).readRun x.page .send x.next s.config.burst with
      | (s1, some ws) =>
        ({ s1 with serve := some (v1.sentBulk x ws.length) } : State).putBulk v.receiver (.page x.page x.next ws)
      | (s1, none) => s1
    | _, _, _, _ => s

/-- The record with a page of the final set in send, the lowest unsent one if none is in send (R142). -/
def Serve.chooseFinal (v : Serve) : Option (Serve × InSend) :=
  match v.inSend with
  | some x => some (v, x)
  | none =>
    match v.finalSet.find? (fun p => !v.fullySent.contains p) with
    | none => none
    | some p =>
      let x : InSend := ⟨p, 0, (v.slotOf p).isSome⟩
      some ({ v with inSend := some x }, x)

/-- The record after a PAGE frame of `n` words of the page in send is queued in FINAL (R142). -/
def Serve.sentFinal (v : Serve) (x : InSend) (n : Nat) : Serve :=
  if x.next + n < 256 then { v with inSend := some { x with next := x.next + n } }
  else
    { v with
      fullySent := setInsert x.page v.fullySent
      slots := v.slots.filter (fun y => y.page != x.page)
      inSend := none }

/-- The words of a slot from an offset (R142). -/
def Serve.slotWords (v : Serve) (x : InSend) (n : Nat) : List Word :=
  (((v.slotOf x.page).map Slot.words).getD []).drop x.next |>.take n

/-- A send step in FINAL, from the page's slot or from the store (R142). -/
def State.finalSendStep (s : State) : State :=
  match s.serve with
  | none => s
  | some v =>
    match v.phase, s.bulkRoom v.receiver, v.chooseFinal with
    | .final, true, some (v1, x) =>
      let read := if x.fromSlot then (({ s with serve := some v1 } : State), some (v1.slotWords x s.config.burst))
        else ({ s with serve := some v1 } : State).readRun x.page .send x.next s.config.burst
      match read with
      | (s1, some ws) =>
        ({ s1 with serve := some (v1.sentFinal x s.config.burst) } : State).putBulk v.receiver (.page x.page x.next ws)
      | (s1, none) => s1
    | _, _, _ => s

/-- The next step of a serve over the link at this port, one that waited for room in its bulk queue (R158). -/
def State.resumeSend (s : State) (port : LinkPort) : State :=
  match s.serve with
  | none => s
  | some v =>
    if v.receiver = port then
      match v.phase with
      | .bulk => s.sendStep
      | .final => s.finalSendStep
    else s

/-- Every page of the final set is fully sent (R142). -/
def Serve.allSent (v : Serve) : Bool := v.inSend.isNone && setCovered v.finalSet v.fullySent

/-- LOCK-IMAGE queued after the pages of the final set (R142). -/
def State.queueLockImage (s : State) : State :=
  match s.serve with
  | none => s
  | some v =>
    if v.phase = .final ∧ v.allSent = true ∧ v.lockImageQueued = false ∧ s.bulkRoom v.receiver = true then
      ({ s with serve := some { v with lockImageQueued := true } } : State).putBulk v.receiver
        (.lockImage (v.lockImage.getD []))
    else s

/-- SYNC-MARK queued after LOCK-IMAGE, and the serve ends SERVED (R142). -/
def State.queueSyncMark (s : State) : State :=
  match s.serve with
  | none => s
  | some v =>
    if v.phase = .final ∧ v.lockImageQueued = true ∧ s.bulkRoom v.receiver = true then
      (({ s with serve := none } : State).putBulk v.receiver (.syncMark v.finalCycle (v.keptList.getD []))).raise
        (.restore .donor .served none v.finalCycle)
    else s

/-! ### The receiver -/

/-- The join record that OPEN JOIN creates (R145). -/
def Join.begin : Join where
  phase := .waiting
  attempts := 0
  heardU := false
  heardV := false
  candidate := none
  silence := none
  landed := []
  offsets := Vector.replicate 120 none
  lockImageTaken := false

/-- The heard flag of a peer (R145). -/
def Join.heard (j : Join) : LinkPort → Bool
  | .u => j.heardU
  | .v => j.heardV

/-- The join record with a heard flag set or cleared (R145). -/
def Join.setHeard (j : Join) (port : LinkPort) (b : Bool) : Join :=
  match port with
  | .u => { j with heardU := b }
  | .v => { j with heardV := b }

/-- An attempt started with a peer as candidate (R146). What the attempt before it landed stays in the record until an offer
is taken (R147; log 44). -/
def State.startAttempt (s : State) (j : Join) (port : LinkPort) : State :=
  ({ s with join := some { j with
      candidate := some port
      attempts := j.attempts + 1
      phase := .asked
      silence := some (s.time + s.config.linkTimeout) } } : State).putControl port .joinAsk

/-- A DIGEST taken while JOINING, handed to the engine (R146). -/
def State.peerHeard (s : State) (port : LinkPort) : State :=
  match s.join with
  | none => s
  | some j =>
    let j1 := j.setHeard port true
    match j1.phase with
    | .waiting => s.startAttempt j1 port
    | .asked => { s with join := some j1 }
    | .landing => { s with join := some j1 }

/-- The attempt under way fails (R153). `abort` is the JOIN-ABORT sent to the candidate, if one is. The landed set, the landing
offsets and the lock image taken flag keep what the attempt left (log 44). -/
def State.failAttempt (s : State) (reason : RestoreReason) (abort : Option RestoreReason) : State :=
  match s.join with
  | none => s
  | some j =>
    match j.candidate with
    | none => s
    | some port =>
      let s1 := match abort with
        | some r => s.putControl port (.joinAbort r)
        | none => s
      let j1 := { j.setHeard port false with phase := .waiting, candidate := none, silence := none }
      let s2 := ({ s1 with join := some j1 } : State).raise (.restore .receiver .failed (some reason) s1.vote.lastClosed)
      if Config.attemptLimit ≤ j.attempts then s2.stopRequest .joinFailed 0
      else if j1.heard (otherPort port) then s2.startAttempt j1 (otherPort port)
      else s2

/-- The peer at a port is the candidate of the attempt under way (R145). -/
def Join.asks (j : Join) (port : LinkPort) : Bool := j.candidate == some port

/-- The silence timer restarted from a full L (R148). -/
def State.restartSilence (s : State) (j : Join) : State :=
  { s with join := some { j with silence := some (s.time + s.config.linkTimeout) } }

/-- A JOIN-OFFER (R147, R154). -/
def State.offerReceived (s : State) (port : LinkPort) (pages : Nat) : State :=
  match s.join with
  | none => s.putControl port (.joinAbort .stale)
  | some j =>
    if j.phase = .asked ∧ j.asks port = true then
      if pages = s.vitalPages.length then
        s.restartSilence { j with phase := .landing, landed := [], offsets := Vector.replicate 120 none, lockImageTaken := false }
      else (s.restartSilence j).failAttempt .mismatch (some .mismatch)
    else s.putControl port (.joinAbort .stale)

/-- A JOIN-DECLINE; a reason out of its table is inconsistent contents (R147, R154, R188; log 21). -/
def State.declineReceived (s : State) (port : LinkPort) (reason : Option RestoreReason) : State :=
  match s.join with
  | none =>
    match reason with
    | some _ => s
    | none => s.checkFail port
  | some j =>
    let s1 := if j.phase = .asked ∧ j.asks port = true then s.restartSilence j else s
    match reason with
    | some r => if j.phase = .asked ∧ j.asks port = true then s1.failAttempt r none else s1
    | none => s1.checkFail port

/-- A JOIN-ABORT (R154, R188; log 21). -/
def State.abortReceived (s : State) (port : LinkPort) (reason : Option RestoreReason) : State :=
  let ours := match s.join with
    | some j => j.asks port
    | none => false
  let s1 := match s.join with
    | some j => if ours then s.restartSilence j else s
    | none => s
  match reason with
  | none => s1.checkFail port
  | some r =>
    if s.serving port then s1.endServe r none
    else if ours then s1.failAttempt r none
    else if (s.peer port).state = .joining then s1.setPeer port { s1.peer port with state := .absent }
    else s1

/-- The peer at a port is the donor of a LANDING attempt (R149). -/
def Join.landsFrom (j : Join) (port : LinkPort) : Bool := j.phase == .landing && j.asks port

/-- The landing offset and landed set after a PAGE frame (R149). -/
def Join.landedFrame (j : Join) (page offset count : Nat) : Join :=
  let now := if offset = 0 then some count
    else if tableGet j.offsets page none = some offset then some (offset + count) else none
  { j with
    offsets := tableSet j.offsets page now
    landed := if now = some 256 then setInsert page j.landed
      else if offset ≠ 0 ∧ now.isSome = true then j.landed else setErase page j.landed }

/-- The checks of a PAGE frame (R149). -/
def State.pageLands (s : State) (page offset count : Nat) : Bool :=
  s.isVital page && (s.page page).isRestoring && decide (1 ≤ count ∧ count ≤ 128 ∧ offset + count ≤ 256)

/-- A PAGE frame (R149, R154). -/
def State.pageReceived (s : State) (port : LinkPort) (page offset : Nat) (words : List Word) : State :=
  match s.join with
  | some j =>
    if j.landsFrom port then
      let s1 := s.restartSilence j
      if s.pageLands page offset words.length then
        let s2 := s1.writeRun page offset words
        { s2 with join := s2.join.map fun k => k.landedFrame page offset words.length }
      else s1.failAttempt .mismatch (some .mismatch)
    else if offset = 0 then s.putControl port (.joinAbort .stale) else s
  | none => if offset = 0 then s.putControl port (.joinAbort .stale) else s

/-- A LOCK-IMAGE; codes out of their tables are inconsistent contents, in the exchange or out of place (R90, R150, R154,
R188; log 21, 39). -/
def State.imageReceived (s : State) (port : LinkPort) (timers : Option (List LockTimer)) : State :=
  let s1 := match s.join with
    | some j => if j.landsFrom port then s.restartSilence j else s
    | none => s
  match timers with
  | none => s1.checkFail port
  | some ts =>
    match s1.join with
    | some j =>
      if j.landsFrom port then
        if decide (ts.length = 48) && ts.all (fun t => s.timerFits t) then
          { s1.takeImage ts with join := some { j with lockImageTaken := true } }
        else s1.failAttempt .mismatch (some .mismatch)
      else s1.putControl port (.joinAbort .stale)
    | none => s1.putControl port (.joinAbort .stale)

/-- A VITAL page back in ordinary access (R25, R152, R31). -/
def PageEntry.restored : PageEntry → PageEntry
  | .restoring f => .active f
  | .moving f g c p _ => .moving f g c p false
  | .unmapped => .unmapped
  | .active f => .active f
  | .poisoned f => .poisoned f

/-- A VITAL page that takes landings (R25, R31). -/
def PageEntry.toRestore : PageEntry → PageEntry
  | .active f => .restoring f
  | .moving f g c p _ => .moving f g c p true
  | .unmapped => .unmapped
  | .restoring f => .restoring f
  | .poisoned f => .poisoned f

/-- The peer record after an OPEN (R114). -/
def PeerRecord.opened (p : PeerRecord) : PeerRecord :=
  { p with miss := 0, held := none, early := none, earlyOverwritten := false, late := 0 }

/-- The peer record after a join completion (R114). -/
def PeerRecord.joined (p : PeerRecord) : PeerRecord := { p with miss := 0, held := none, early := none }

/-- The vote unit's own fields after an OPEN or a join completion, with its last closed cycle (R114). -/
def VoteUnit.openedAt (n : Nat) : VoteUnit := ⟨n, .none, none, none, none⟩

/-- The settings of one VITAL region at a join completion (R152). -/
def State.restoreRegion (s : State) (id : Nat) : State :=
  match s.region id with
  | some r =>
    match r.cls with
    | .vital =>
      (r.pages.foldl (fun s p => s.setPage p (s.page p).restored) s).setRegion id (some { r with state := .clean })
    | .lane => s
  | none => s

/-- The join completes at cycle `n` (R152). -/
def State.completeJoin (s : State) (n : Nat) : State :=
  let s1 := ((List.range 16).foldl State.restoreRegion s).selectIfWaiting
  let s2 : State := { s1 with
    vote := VoteUnit.openedAt n
    peerU := s1.peerU.joined
    peerV := s1.peerV.joined
    lane := { s1.lane with mode := some .service, confirmed := false, deadline := some (s1.time + s1.config.deadline) }
    serve := none
    join := none }
  s2.raise (.restore .receiver .joined none n)

/-- The SYNC-MARK check (R151). -/
def State.syncPasses (s : State) (j : Join) (n : Nat) (list : Option DigestList) : Bool :=
  decide (1 ≤ n) && setCovered s.vitalPages j.landed && j.lockImageTaken && list == some s.closingList

/-- A SYNC-MARK (R151, R154). A list with a digest out of range, here none, fails the check (R188; log 40). -/
def State.syncReceived (s : State) (port : LinkPort) (n : Nat) (list : Option DigestList) : State :=
  match s.join with
  | some j =>
    if j.landsFrom port then
      if s.syncPasses j n list then s.completeJoin n
      else (s.restartSilence j).failAttempt .mismatch (some .mismatch)
    else s.putControl port (.joinAbort .stale)
  | none => s.putControl port (.joinAbort .stale)

end Sys2Proof.Machine
end

