-- ==== Sys2Proof/Machine/Restart.lean ====
section
/-! DEFINITION. Power-on, the start-up sweep and the warm restart (R18, R128). -/

namespace Sys2Proof.Machine

/-- The application of power (R18). The waiting commands and the model's own counter of free values stay. -/
def State.poweredOn (s : State) : State := { State.reset with pending := s.pending, freeCount := s.freeCount }

/-- The sweep has written the words up to a free point, at an event during it (R18; log 6). -/
def State.sweepOn (s : State) : State :=
  match s.sweep with
  | none => s
  | some done =>
    let now := min Config.storeWords (done + Config.sweepAdvance s.freeCount)
    { s with sweep := some now, freeCount := s.freeCount + 1, mem := s.mem.clear done now }

/-- The start-up sweep ends (R18, R115, R156). -/
def State.sweepEnded (s : State) : State :=
  match s.sweep with
  | none => s
  | some done =>
    { s with
      sweep := none
      mem := s.mem.clear done Config.storeWords
      lane := { s.lane with mode := some .offline }
      linkU := { s.linkU with idleFrom := s.time }
      linkV := { s.linkV with idleFrom := s.time } }

/-- A move in progress abandoned by a warm restart, and the move queue emptied (R39, R41). The old frame's word may be CLEAN
where the new frame's was found DOUBLE; its poison entry stays all the same (R13, R19 against R12; log 45, DESIGN CHOICE). -/
def State.movesDropped (s : State) : State :=
  let s1 := match s.moving with
    | some page => s.abandonMove page
    | none => s
  { s1 with moveQueue := [], moving := none }

/-- The warm restart settings of every block, in one event (R128, R71, R91, R114, R133, R165, R173, R185). The poison list
stays whole (R13, R19), with an entry for a word that the abandoned move leaves CLEAN (R12; log 45, DESIGN CHOICE). -/
def State.warmRestart (s : State) : State :=
  let s1 := s.movesDropped
  State.selectPass
    { s1 with
      patrol := ⟨none, none⟩
      locks := Vector.replicate 48 LockRecord.cleared
      advance := none
      vote := VoteUnit.openedAt 0
      peerU := PeerRecord.cleared
      peerV := PeerRecord.cleared
      lane := ⟨some .offline, false, s1.lane.stopCause, none⟩
      health := ⟨none, false⟩
      serve := none
      join := none
      linkU := s1.linkU.emptied
      linkV := s1.linkV.emptied
      attention := Attention.cleared
      port := s1.port.restarted
      opening := none
      run := none
      restartDue := false }

/-- A mapping of an OPEN runs (R30). -/
def State.mapping (s : State) : Bool :=
  match s.opening with
  | some o => o.phase == .mapping
  | none => false

/-- An ADOPT has been handed to its block and has not ended (R52). -/
def State.adopting (s : State) : Bool :=
  match s.port.service with
  | some ⟨_, _, some (.adopt _ _)⟩ => true
  | _ => false

/-- A warm restart would wait: a mapping, an ADOPT or a lock advance is under way (R128). -/
def State.restartWaits (s : State) : Bool := s.mapping || s.adopting || s.advance.isSome

end Sys2Proof.Machine
end

