-- ==== Sys2Proof/Machine/AttentionRequests.lean ====
section
/-! DEFINITION. The requests of the attention controller: TAKE, DONE_CLASS, DONE_NO_CLASS, MASK, PRIORITY_FIXED,
PRIORITY_ROTATING, PRIORITY_SET_LOWEST. -/

namespace Sys2Proof.Machine

/-- The reply of a TAKE (R169, R187; log 20). -/
def takePayload (cls count : Nat) (detail : Option Detail) : List Byte := field1 cls ++ field1 count ++ detailBytes detail

/-- TAKE at its block (R169). -/
def State.takeEvent (s : State) : State :=
  match s.attention.offered with
  | some k =>
    State.reply { s with attention := s.attention.takeClass k } .ok
      (takePayload k (s.attention.cls k).count (s.attention.cls k).detail)
  | none => s.reply .ok (takePayload 255 0 none)

/-- TAKE (R169). -/
def execTake (tag : Nat) (s : State) : Result := .next (s.request (.take tag) State.takeEvent)

/-- DONE(class) at its block (R170). -/
def State.doneClassEvent (cls : Nat) (s : State) : State :=
  if 7 < cls then s.reply .badArgument []
  else if (s.attention.cls cls).inService then
    State.reply { s with attention := s.attention.finish cls } .ok (field1 cls)
  else s.reply .notInService (field1 cls)

/-- DONE_CLASS (R170). -/
def execDoneClass (tag cls : Nat) (s : State) : Result := .next (s.request (.doneClass tag cls) (State.doneClassEvent cls))

/-- DONE with no class at its block (R170). -/
def State.doneNoClassEvent (s : State) : State :=
  match s.attention.highestInService with
  | some k => State.reply { s with attention := s.attention.finish k } .ok (field1 k)
  | none => s.reply .notInService (field1 255)

/-- DONE_NO_CLASS (R170). -/
def execDoneNoClass (tag : Nat) (s : State) : Result := .next (s.request (.doneNoClass tag) State.doneNoClassEvent)

/-- MASK at its block (R172). -/
def State.maskEvent (set : Byte) (s : State) : State :=
  State.reply { s with attention := s.attention.setMasks set } .ok [set]

/-- MASK (R172). -/
def execMask (tag : Nat) (set : Byte) (s : State) : Result := .next (s.request (.mask tag set) (State.maskEvent set))

/-- PRIORITY at its block, with the order after it (R171, R187). -/
def State.priorityEvent (rotating : Bool) (lowest : Nat) (s : State) : State :=
  State.reply { s with attention := s.attention.setOrder rotating lowest } .ok
    (field1 (if rotating then 2 else 1) ++ field1 lowest)

/-- PRIORITY_FIXED (R171). -/
def execPriorityFixed (tag : Nat) (s : State) : Result :=
  .next (s.request (.priorityFixed tag) (State.priorityEvent false 7))

/-- PRIORITY_ROTATING (R171). -/
def execPriorityRotating (tag : Nat) (s : State) : Result :=
  .next (s.request (.priorityRotating tag) fun s => s.priorityEvent true s.attention.lowest)

/-- PRIORITY SET-LOWEST at its block (R171). -/
def State.setLowestEvent (cls : Nat) (s : State) : State :=
  if 7 < cls then s.reply .badArgument [] else s.priorityEvent true cls

/-- PRIORITY_SET_LOWEST (R171). -/
def execPrioritySetLowest (tag cls : Nat) (s : State) : Result :=
  .next (s.request (.prioritySetLowest tag cls) (State.setLowestEvent cls))

end Sys2Proof.Machine
end

