-- ==== Sys2Proof/Machine/Background.lean ====
section
/-! DEFINITION. The paced work of the part: PATROL_STEP, MOVE_TAKE, MOVE_STEP. -/

namespace Sys2Proof.Machine

/-- PATROL_STEP (R60). -/
def execPatrolStep (s : State) : Result := .next s.patrolStep

/-- The engine takes an entry: it is idle, the pace is above 0, and no mapping runs (R34, R40, R30; log 15). -/
def State.takesMove (s : State) : Bool := s.moving.isNone && decide (0 < s.config.pace) && !s.mapping

/-- MOVE_TAKE (R34). -/
def execMoveTake (s : State) : Result :=
  match s.moveQueue with
  | frame :: rest => if s.takesMove then .next (s.takeMove frame rest) else .next s
  | [] => .next s

/-- MOVE_STEP (R35, R40). -/
def execMoveStep (s : State) : Result :=
  match s.moving with
  | some page => if 0 < s.config.pace then .next (s.stepMove page) else .next s
  | none => .next s

end Sys2Proof.Machine
end

