-- ==== Sys2Proof/Machine/Vote.lean ====
section
/-! DEFINITION. The vote unit (chapter 6) with the confirmation of the lane and the start of the health waves (R109, R121,
R130): arrivals of DIGESTs, the decision of a vote, and the completion of a close. -/

namespace Sys2Proof.Machine

/-! ### The verdict -/

/-- The verdict from the own list and the lists delivered by the peers at ports U and V, of these lane numbers; and the
participants and odd lane (R107, R108). -/
def judgeLists (ownLane laneU laneV : Nat) (own : DigestList) : Option DigestList → Option DigestList →
    Verdict × Nat × Option Nat
  | some a, some b =>
    if own = a ∧ own = b then (.agreed, 3, none)
    else if a = b then (.outvoted, 3, some ownLane)
    else if own = a then (.peerDivergent, 3, some laneV)
    else if own = b then (.peerDivergent, 3, some laneU)
    else (.noMajority, 3, none)
  | some a, none => if own = a then (.agreed, 2, none) else (.noMajority, 2, none)
  | none, some b => if own = b then (.agreed, 2, none) else (.noMajority, 2, none)
  | none, none => (.alone, 1, none)

/-- The verdict on the open cycle (R107, R108). -/
def State.verdict (s : State) : Verdict × Nat × Option Nat :=
  judgeLists s.config.lane (s.peerLane .u) (s.peerLane .v) (s.vote.ownList.getD []) s.peerU.held s.peerV.held

/-- The peer misses the vote: PRESENT or DIVERGENT with nothing delivered (R106). -/
def PeerRecord.misses (p : PeerRecord) : Bool := (p.state == .present || p.state == .divergent) && p.held.isNone

/-- The miss counting of one peer at a decision (R106). -/
def State.countMiss (s : State) (port : LinkPort) : State :=
  let p := s.peer port
  if p.misses then
    let miss := bump 15 p.miss
    if s.config.missLimit ≤ miss then
      (s.setPeer port { p with miss := miss, state := .absent }).raise (.link (s.peerLane port) .absent)
    else s.setPeer port { p with miss := miss }
  else s

/-- The states of the peers after a verdict: a peer consistent with another participant becomes PRESENT, the odd peer of
PEER-DIVERGENT becomes DIVERGENT (R109, R110, R111). -/
def PeerRecord.afterVerdict (p : PeerRecord) (lane : Nat) (v : Verdict) (odd : Option Nat) : PeerRecord :=
  if p.held.isNone then p
  else
    match v with
    | .agreed => { p with state := .present }
    | .outvoted => { p with state := .present }
    | .peerDivergent => if odd = some lane then { p with state := .divergent } else { p with state := .present }
    | .noMajority => p
    | .alone => p

/-- The waves as the generator enters RUNNING (R130). -/
def Wave.begin (time half : Nat) : Wave := ⟨.aHigh, half, time + half⟩

/-- The length of a half-period that begins now (R130, R131). -/
def State.halfPeriod (s : State) : Nat := if s.health.degraded then 2 * s.config.halfPeriod else s.config.halfPeriod

/-- The confirmed flag set; when it was clear the generator enters RUNNING (R121, R130). -/
def State.confirm (s : State) : State :=
  if s.lane.confirmed then s
  else
    { s with
      lane := { s.lane with confirmed := true }
      health := { s.health with wave := some (Wave.begin s.time s.halfPeriod) } }

/-- The deadline timer started from a full D (R122). -/
def State.startDeadline (s : State) : State :=
  { s with lane := { s.lane with deadline := some (s.time + s.config.deadline) } }

/-- The effects of a verdict on the lane and the transfer engine (R109, R110, R111). -/
def State.applyVerdict (s : State) (v : VerdictRecord) : State :=
  match v.verdict with
  | .agreed =>
    let s1 := s.startDeadline
    let s2 : State := { s1 with health := { s1.health with degraded := v.participants == 2 } }
    s2.confirm.verdictHanded true v.cycle
  | .peerDivergent =>
    (s.startDeadline.raise (.vote v.cycle (some .peerDivergent) (some v.participants) v.odd none)).verdictHanded false
      v.cycle
  | .outvoted => s.stopRequest .outvoted 0
  | .noMajority => s.stopRequest .noMajority 0
  | .alone => s.stopRequest .alone 0

/-- The decision of the open vote (R105). The peer at U is counted before the peer at V, so where both become ABSENT the
LINK raise of V comes second (R106, R167; log 38). -/
def State.decideVote (s : State) : State :=
  let s1 := (s.countMiss .u).countMiss .v
  let (v, participants, odd) := s1.verdict
  let record : VerdictRecord := ⟨s1.vote.lastClosed, v, participants, odd⟩
  let s2 : State := { s1 with
    vote := { s1.vote with state := .decided, window := none, lastVerdict := some record }
    peerU := s1.peerU.afterVerdict (s1.peerLane .u) v odd
    peerV := s1.peerV.afterVerdict (s1.peerLane .v) v odd }
  s2.dropHeld.applyVerdict record

/-- The condition of an early decision: some peer PRESENT, and every PRESENT peer delivered (R105). -/
def State.earlyDecision (s : State) : Bool :=
  (s.peerU.state == .present || s.peerV.state == .present) &&
    (s.peerU.state != .present || s.peerU.held.isSome) && (s.peerV.state != .present || s.peerV.held.isSome)

/-- The open vote decided early, if the condition holds (R105). -/
def State.decideIfEarly (s : State) : State :=
  if s.vote.state = .opened ∧ s.earlyDecision = true then s.decideVote else s

/-! ### Arrivals -/

/-- An ABSENT or JOINING peer heard (R101, R103, R104). -/
def PeerState.heard : PeerState → PeerState
  | .absent => .present
  | .joining => .present
  | .present => .present
  | .divergent => .divergent

/-- A delivery (R101). -/
def PeerRecord.deliver (p : PeerRecord) (list : DigestList) : PeerRecord :=
  { p with held := some list, miss := 0, state := p.state.heard }

/-- A late frame (R103). -/
def PeerRecord.tookLate (p : PeerRecord) : PeerRecord :=
  match p.state with
  | .absent => { p with late := bump 255 p.late, state := .present, miss := 0 }
  | .joining => { p with late := bump 255 p.late, state := .present, miss := 0 }
  | .present => { p with late := bump 255 p.late }
  | .divergent => { p with late := bump 255 p.late }

/-- Ids strictly ascending, region ids but for the last, which is 16 (R100). -/
def idsFit : List Nat → Bool
  | [] => false
  | [i] => i == 16
  | i :: j :: is => decide (i < j) && decide (i ≤ 15) && idsFit (j :: is)

/-- The vote unit's check of a DIGEST list (R100). -/
def listFits (l : DigestList) : Bool := idsFit (l.map Prod.fst) && decide (l.length ≤ 17)

/-- A DIGEST that passes the vote unit's check, by lane mode, cycle and vote state (R100 to R104). -/
def State.digestTaken (s : State) (port : LinkPort) (m : Nat) (confirmed : Bool) (list : DigestList) : State :=
  let p := { s.peer port with lastCycle := m, confirmed := confirmed }
  if s.inService then
    if m = s.vote.lastClosed ∧ s.vote.state = .opened then (s.setPeer port (p.deliver list)).decideIfEarly
    else if s.vote.lastClosed < m then
      match p.early with
      | none => s.setPeer port { p with early := some ⟨m, confirmed, list⟩ }
      | some _ =>
        (s.setPeer port { p with early := some ⟨m, confirmed, list⟩, earlyOverwritten := true }).raise
          (.link (s.peerLane port) .earlyOverwritten)
    else (s.setPeer port p.tookLate).raise (.link (s.peerLane port) .late)
  else
    let s1 := s.setPeer port { p with state := p.state.heard, miss := 0 }
    if s.isJoining then s1.peerHeard port else s1

/-- A DIGEST handed to the vote unit; one that fails its check is reported to the link controller (R100, R188). -/
def State.digestReceived (s : State) (port : LinkPort) (sender m : Nat) (confirmed : Option Bool)
    (list : Option DigestList) : State :=
  match confirmed, list with
  | some c, some l => if sender = s.peerLane port ∧ listFits l = true then s.digestTaken port m c l else s.checkFail port
  | _, _ => s.checkFail port

/-! ### The completion of a close -/

/-- The early slot of a peer promoted at the completion of `n` (R97). -/
def PeerRecord.promote (p : PeerRecord) (n : Nat) : PeerRecord :=
  match p.early with
  | some e => if e.cycle = n then { p.deliver e.list with early := none } else p
  | none => p

/-- The completion of the close of `n`, less its reply (R97). -/
def State.completeClose (s : State) (n : Nat) : State :=
  let list := s.closingList
  let s1 : State := { s with
    vote := { s.vote with ownList := some list, lastClosed := n }
    peerU := s.peerU.promote n
    peerV := s.peerV.promote n }
  let s2 := (s1.putControl .u (.digest n s1.lane.confirmed list)).putControl .v (.digest n s1.lane.confirmed list)
  let s3 := s2.closeCompleted n
  let s4 : State := { s3 with vote := { s3.vote with state := .opened, window := some (s3.time + s3.config.window) } }
  s4.decideIfEarly

/-- The vote unit's settings at an OPEN (R114). -/
def State.openVote (s : State) : State :=
  { s with vote := VoteUnit.openedAt 0, peerU := s.peerU.opened, peerV := s.peerV.opened }

end Sys2Proof.Machine
end

