-- ==== Sys2Proof/Machine/Closing.lean ====
section
/-! DEFINITION. The commands of a cycle close: CYCLE_CLOSE, GATE_READ, LOCK_ADVANCE. -/

namespace Sys2Proof.Machine

/-- A close accepted: an open vote is decided, and the lock table begins its advance if the lane is still in SERVICE
(R95, R81). -/
def State.acceptClose (s : State) (cycle : Nat) : State :=
  let s1 := if s.vote.state = .opened then s.decideVote else s
  if s1.inService then { s1 with advance := some ⟨cycle, gatesToRead s1.locks.toList, []⟩ } else s1.reply .stopped []

/-- CYCLE-CLOSE at its block (R94). -/
def State.closeEvent (cycle : Nat) (s : State) : State :=
  if !s.inService then s.reply .wrongMode []
  else if Config.maxCycle ≤ s.vote.lastClosed then s.reply .cycleLimit []
  else if cycle ≠ s.vote.lastClosed + 1 then s.reply .outOfOrder (field4 s.vote.lastClosed)
  else s.acceptClose cycle

/-- CYCLE_CLOSE (R94, R95). -/
def execCycleClose (tag cycle : Nat) (s : State) : Result := .next (s.request (.cycleClose tag cycle) (State.closeEvent cycle))

/-- The advance has ended and the close is abandoned; a warm restart that waited acts instead of the reply (R81, R83,
R96; log 19). -/
def State.abandonClose (s : State) : State := if s.restartDue then s.warmRestart else s.reply .stopped []

/-- One gate read (R82, R83). -/
def State.readGate (s : State) (a : Advance) (gate : Nat) (rest : List Nat) : State :=
  match s.readWord (gate / 256) (gate % 256) .gate with
  | (s1, some w) => { s1 with advance := some ⟨a.cycle, rest, a.values ++ [(gate, w)]⟩ }
  | (s1, none) => ({ s1 with advance := none } : State).abandonClose

/-- GATE_READ (R82). -/
def execGateRead (s : State) : Result :=
  match s.advance with
  | some ⟨cycle, gate :: rest, values⟩ => .next (s.readGate ⟨cycle, gate :: rest, values⟩ gate rest)
  | some ⟨_, [], _⟩ => .next s
  | none => .next s

/-- The reply of a completed close (R97, R187). -/
def closePayload (cycle : Nat) (list : DigestList) : List Byte := field4 cycle ++ field1 list.length ++ listBytes list

/-- The second part of the advance, and the completion of the close if the lane is in SERVICE (R81, R96, R97). -/
def State.endAdvance (s : State) (a : Advance) : State :=
  let s1 : State := { s.stepLocks a.values with advance := none }
  if s.restartDue then s1.warmRestart
  else if s1.inService then (s1.completeClose a.cycle).reply .ok (closePayload a.cycle s1.closingList)
  else s1.reply .stopped []

/-- LOCK_ADVANCE, once every gate is read (R81). -/
def execLockAdvance (s : State) : Result :=
  match s.advance with
  | some ⟨cycle, [], values⟩ => .next (s.endAdvance ⟨cycle, [], values⟩)
  | some ⟨_, _ :: _, _⟩ => .next s
  | none => .next s

end Sys2Proof.Machine
end

