-- ==== Sys2Proof/Machine/Disturbances.lean ====
section
/-! DEFINITION. The commands of the family of disturbances: ONE_BIT_DISTURBANCE, SILENT_DISTURBANCE. -/

namespace Sys2Proof.Machine

/-- A disturbance from outside acts on the cell of one word (R2, R3); during the sweep, after the words that the sweep
has written by then (R18; log 6). -/
def State.disturb (s : State) (frame offset : Nat) (f : Cell → Cell) : State :=
  s.sweepOn.setCell frame offset (f (s.sweepOn.cell frame offset))

/-- The store has the word (R1). -/
def isStoreWord (frame offset : Nat) : Bool := decide (frame < Config.frameCount) && decide (offset < Config.pageWords)

/-- ONE_BIT_DISTURBANCE (R2; log 32). -/
def execOneBitDisturbance (frame offset : Nat) (s : State) : Result :=
  if isStoreWord frame offset then .next (s.disturb frame offset Cell.disturb) else .fault (.noStoreWord frame offset)

/-- SILENT_DISTURBANCE (R3; log 32, 33). -/
def execSilentDisturbance (frame offset : Nat) (value : Word) (s : State) : Result :=
  if isStoreWord frame offset then .next (s.disturb frame offset (fun c => c.silent value))
  else .fault (.noStoreWord frame offset)

end Sys2Proof.Machine
end

