-- ==== Sys2Proof/Machine/Donor.lean ====
section
/-! DEFINITION. The steps of a serve: SEND_STEP, FINAL_SEND_STEP, LOCK_IMAGE_QUEUED, SYNC_MARK_QUEUED. -/

namespace Sys2Proof.Machine

/-- SEND_STEP (R137). -/
def execSendStep (s : State) : Result := .next s.sendStep

/-- FINAL_SEND_STEP (R142). -/
def execFinalSendStep (s : State) : Result := .next s.finalSendStep

/-- LOCK_IMAGE_QUEUED (R142). -/
def execLockImageQueued (s : State) : Result := .next s.queueLockImage

/-- SYNC_MARK_QUEUED (R142). -/
def execSyncMarkQueued (s : State) : Result := .next s.queueSyncMark

end Sys2Proof.Machine
end

