-- ==== Sys2Proof/Machine/HostFrames.lean ====
section
/-! DEFINITION. The commands of the family of the host line: HOST_FRAME_CHECK, HOST_FRAME_CUT_OFF, REPLY_END. -/

namespace Sys2Proof.Machine

/-- HOST_FRAME_CHECK (R175, R176, R186; log 4). -/
def execHostFrameCheck (bytes : List Byte) (s : State) : Result := .next (bytes.foldl State.receiveByte s)

/-- HOST_FRAME_CUT_OFF: a frame in part received is ended and fails its check (R175). -/
def execHostFrameCutOff (s : State) : Result :=
  match s.port.rx with
  | [] => .next s
  | _ :: _ => .next (s.setHostRx []).badFrame

/-- The end of the reply of the request in service; after the reply of a RESTART the warm restart acts (R174, R185). -/
def State.replyEnded (s : State) : State :=
  let isRestart := match s.port.service with
    | some v => v.kind == 20
    | none => false
  let s1 : State := { s with port := { s.port with line := none } }
  let s2 := if isRestart then s1.warmRestart else { s1 with port := s1.port.replyGone }
  { s2 with port := s2.port.next }

/-- The end of an owed answer, which leaves the owed list (R174). -/
def State.owedEnded (s : State) : State :=
  { s with port := HostPort.next { s.port with line := none, owed := s.port.owed.eraseP OwedAnswer.due } }

/-- The end of any other answer. -/
def State.plainEnded (s : State) : State := { s with port := HostPort.next { s.port with line := none } }

/-- REPLY_END (R174, R178, R185). -/
def execReplyEnd (s : State) : Result :=
  match s.port.line with
  | none => .next s
  | some a =>
    match a.role with
    | .reply => .next s.replyEnded
    | .owed => .next s.owedEnded
    | .plain => .next s.plainEnded

end Sys2Proof.Machine
end

