-- ==== Sys2Proof/Machine/Image.lean ====
section
/-! DEFINITION. The commands on the image and the store: READ, HOST_READ_WORD, WRITE, HOST_WRITE_WORD, FILL, ADOPT,
FRAMES, POISON. -/

namespace Sys2Proof.Machine

/-! ### READ and WRITE -/

/-- The run of addresses passes the argument check (R182). -/
def runFits (address count : Nat) : Bool :=
  decide (1 ≤ count ∧ count ≤ 64) && decide (address ≤ 30719) && decide (address + count ≤ 30720)

/-- The pages that a run touches, ascending (R182). -/
def runPages (address count : Nat) : List Nat :=
  let first := address / 256
  let last := (address + count - 1) / 256
  if first = last then [first] else [first, last]

/-- The page checks of R182 at one page; the outcome of the first that fails. -/
def State.pageRefusal (s : State) (reading : Bool) (page : Nat) : Option ReplyOutcome :=
  if !(s.page page).mapped then some .notMapped
  else if s.isVital page && !s.inService then some .wrongMode
  else if (s.page page).isRestoring then some .wrongMode
  else if reading && (s.page page).isPoisoned then some .unreadable
  else none

/-- The page checks of R182 over a run. -/
def State.runRefusal (s : State) (reading : Bool) (address count : Nat) : Option ReplyOutcome :=
  (runPages address count).findSome? (s.pageRefusal reading)

/-- The payload of a READ or WRITE refused at its page checks: the count 0 where the outcome carries one (R187). -/
def refusalPayload (reading : Bool) (outcome : ReplyOutcome) : List Byte :=
  match reading, outcome with
  | true, .unreadable => field1 0
  | false, .wrongMode => field1 0
  | _, _ => []

/-- READ at its blocks: the checks, after which its words are reached one at a time (R182, R183). -/
def State.readEvent (address count : Nat) (s : State) : State :=
  if !runFits address count then s.reply .badArgument []
  else
    match s.runRefusal true address count with
    | some outcome => s.reply outcome (refusalPayload true outcome)
    | none => { s with run := some (.reading address count []) }

/-- READ (R182). -/
def execRead (tag address count : Nat) (s : State) : Result :=
  .next (s.request (.read tag address count) (State.readEvent address count))

/-- The payload of a READ reply with words (R187). -/
def wordsPayload (ws : List Word) : List Byte := field1 ws.length ++ ws.flatMap wordBytes

/-- One word of a READ (R7, R11, R183). -/
def State.readOne (s : State) (next left : Nat) (delivered : List Word) : State :=
  match s.readWord (next / 256) (next % 256) .read with
  | (s1, some w) =>
    if left ≤ 1 then ({ s1 with run := none } : State).reply .ok (wordsPayload (delivered ++ [w]))
    else { s1 with run := some (.reading (next + 1) (left - 1) (delivered ++ [w])) }
  | (s1, none) => ({ s1 with run := none } : State).reply .unreadable (wordsPayload delivered)

/-- HOST_READ_WORD (R183). -/
def execHostReadWord (s : State) : Result :=
  match s.run with
  | some (.reading next left delivered) => .next (s.readOne next left delivered)
  | some (.writing _ _ _) => .next s
  | none => .next s

/-- WRITE at its blocks: the checks, after which its words are reached one at a time (R182, R183). -/
def State.writeEvent (address count : Nat) (words : List Word) (s : State) : State :=
  if !runFits address count then s.reply .badArgument []
  else
    match s.runRefusal false address count with
    | some outcome => s.reply outcome (refusalPayload false outcome)
    | none => { s with run := some (.writing address words 0) }

/-- WRITE (R182). -/
def execWrite (tag address count : Nat) (words : List Word) (s : State) : Result :=
  .next (s.request (.write tag address count words) (State.writeEvent address count words))

/-- A host write of one word: the before-image capture, the write with its hand-on, and the removal of a poison entry
(R5, R13, R138, R141). -/
def State.hostWrite (s : State) (page offset : Nat) (w : Word) : State :=
  let s1 := if s.isVital page then s.capture page else s
  let s2 := (s1.writeWord page offset w).clearPoisonWord page offset
  if s.isVital page then s2.markDirty page else s2

/-- One word of a WRITE, with the recheck of the lane mode (R183). -/
def State.writeOne (s : State) (next done : Nat) (w : Word) (rest : List Word) : State :=
  if s.isVital (next / 256) && !s.inService then ({ s with run := none } : State).reply .wrongMode (field1 done)
  else
    let s1 := s.hostWrite (next / 256) (next % 256) w
    match rest with
    | [] => ({ s1 with run := none } : State).reply .ok (field1 (done + 1))
    | x :: xs => { s1 with run := some (.writing (next + 1) (x :: xs) (done + 1)) }

/-- HOST_WRITE_WORD (R183). -/
def execHostWriteWord (s : State) : Result :=
  match s.run with
  | some (.writing next (w :: rest) done) => .next (s.writeOne next done w rest)
  | some (.writing _ [] _) => .next s
  | some (.reading _ _ _) => .next s
  | none => .next s

/-! ### FILL -/

/-- The fill of a page, with the release from POISONED and the new pass (R16, R15, R70). -/
def State.fillPage (s : State) (page : Nat) (value : Word) : State :=
  let s1 := (s.writeRun page 0 (List.replicate 256 value)).clearPoisonPage page
  let s2 := s1.setPage page (s1.page page).releasePoisoned
  match s.regionOf page with
  | some (id, _) => s2.restartPassOn id
  | none => s2

/-- FILL at its block (R16); the order of its checks is the model's choice (log 37). -/
def State.fillEvent (page : Nat) (value : Word) (s : State) : State :=
  if 119 < page then s.reply .badArgument []
  else if !(s.page page).mapped then s.reply .notMapped []
  else if s.isVital page then s.reply .badArgument []
  else (s.fillPage page value).reply .ok []

/-- FILL (R16). -/
def execFill (tag page : Nat) (value : Word) (s : State) : Result :=
  .next (s.request (.fill tag page value) (State.fillEvent page value))

/-! ### ADOPT -/

/-- A cell as ADOPT leaves it (R51). -/
def Cell.adopt (c : Cell) : Cell :=
  match c.content with
  | .clean v => ⟨v, .clean v⟩
  | .single v => ⟨v, .single v⟩
  | .double => c

/-- What ADOPT counts: words whose written value changed, and DOUBLE words (R51). -/
structure AdoptCount where
  changed : Nat
  double  : Nat
  deriving DecidableEq, Repr

/-- ADOPT at one word of a page; below the move cursor the old frame takes the written value too (R51). -/
def State.adoptWord (page : Nat) (x : State × AdoptCount) (offset : Nat) : State × AdoptCount :=
  let s := x.1
  match (s.page page).frameAt offset with
  | none => x
  | some frame =>
    let c := s.cell frame offset
    match c.content with
    | .double => (s, { x.2 with double := x.2.double + 1 })
    | .clean v | .single v =>
      let s1 := s.setCell frame offset c.adopt
      let s2 := match (s.page page).alsoWritten offset with
        | some old => s1.setCell old offset { s1.cell old offset with written := v }
        | none => s1
      (s2, { x.2 with changed := if c.written = v then x.2.changed else x.2.changed + 1 })

/-- ADOPT at one page, in ascending offset (R51). -/
def State.adoptPage (x : State × AdoptCount) (page : Nat) : State × AdoptCount :=
  (List.range 256).foldl (State.adoptWord page) x

/-- ADOPT of a LANE region (R51, R52, R70), and what it counts. -/
def State.adoptRegion (s : State) (id : Nat) (r : Region) : State × AdoptCount :=
  let x := r.pages.foldl State.adoptPage (s, ⟨0, 0⟩)
  ((x.1.setRegion id (some { r with live := x.1.regionDigest r, state := .clean })).restartPassOn id, x.2)

/-- The record of a region that ADOPT takes: defined and LANE (R50). -/
def State.laneRegion (s : State) (id : Nat) : Option Region :=
  match s.region id with
  | some r => if r.cls = .lane then some r else none
  | none => none

/-- ADOPT at its block, with its reply (R50, R51, R187). -/
def State.adoptReply (id : Nat) (s : State) : State :=
  match s.laneRegion id with
  | none => s.reply .badArgument []
  | some r =>
    if r.pages.all fun p => (s.page p).mapped then
      let x := s.adoptRegion id r
      x.1.reply .ok (field3 (x.1.regionDigest r).val ++ field2 x.2.changed ++ field2 x.2.double)
    else s.reply .notMapped []

/-- ADOPT at its block; a warm restart that waited for it acts at its end, and no reply is sent (R52; log 19). -/
def State.adoptEvent (id : Nat) (s : State) : State :=
  let s1 := s.adoptReply id
  if s.restartDue then ({ s1 with port := s.port } : State).warmRestart else s1

/-- ADOPT (R50). -/
def execAdopt (tag region : Nat) (s : State) : Result := .next (s.request (.adopt tag region) (State.adoptEvent region))

/-! ### FRAMES and POISON -/

/-- FRAMES at its block (R184). -/
def State.framesEvent (first count : Nat) (s : State) : State :=
  if 127 < first ∨ count = 0 ∨ 128 < count ∨ 128 < first + count then s.reply .badArgument []
  else
    s.reply .ok (field1 count ++ (List.range count).flatMap fun k => (s.frame (first + k)).bytes (first + k))

/-- FRAMES (R184). -/
def execFrames (tag first count : Nat) (s : State) : Result :=
  .next (s.request (.frames tag first count) (State.framesEvent first count))

/-- POISON at its block (R184). -/
def State.poisonEvent (s : State) : State :=
  s.reply .ok (field1 s.poison.length ++ s.poison.flatMap PoisonEntry.bytes)

/-- POISON (R184). -/
def execPoison (tag : Nat) (s : State) : Result := .next (s.request (.poison tag) State.poisonEvent)

end Sys2Proof.Machine
end

