-- ==== Sys2Proof/Machine/LaneRequests.lean ====
section
/-! DEFINITION. The requests STATUS, CONFIG_LANE, STOP and RESTART. -/

namespace Sys2Proof.Machine

/-- STATUS at its block (R179). -/
def State.statusEvent (s : State) : State := s.reply .ok s.statusBytes

/-- STATUS (R179; log 13). -/
def execStatus (tag : Nat) (s : State) : Result := .next (s.request (.status tag) State.statusEvent)

/-- A value limited to a range (R180). -/
def clamp (lo hi n : Nat) : Nat := max lo (min hi n)

/-- A burst size rounded down to an allowed value, 8 at least (R180). -/
def burstOf (n : Nat) : Nat := if 128 ≤ n then 128 else if 32 ≤ n then 32 else 8

/-- The configuration that a CONFIG-LANE applies (R180). -/
def appliedConfig (v : LaneValues) : LaneConfig where
  lane := v.lane
  window := clamp 10 1000 v.window
  deadline := clamp 100 10000 v.deadline
  missLimit := clamp 1 15 v.missLimit
  halfPeriod := clamp 2 50 v.halfPeriod
  pace := clamp 0 64 v.pace
  retire := clamp 1 15 v.retire
  finalLimit := clamp 1 4 v.finalLimit
  burst := burstOf v.burst
  linkTimeout := clamp 25 5000 v.linkTimeout
  serveEnable := v.serveEnable == 1

/-- A configuration applied: a change of lane number empties the link queues (R165), and a pace raised from 0 makes a
WAITING patrol select (R58, R59). -/
def State.configure (s : State) (c : LaneConfig) : State :=
  let s1 : State := { s with config := c }
  let s2 : State := if c.lane = s.config.lane then s1 else { s1 with linkU := s1.linkU.emptied, linkV := s1.linkV.emptied }
  if s.config.pace = 0 ∧ 0 < c.pace then s2.selectIfWaiting else s2

/-- CONFIG-LANE at its block (R180). -/
def State.configLaneEvent (v : LaneValues) (s : State) : State :=
  if !s.isOffline then s.reply .wrongMode []
  else if 2 < v.lane ∨ 1 < v.serveEnable then s.reply .badArgument []
  else (s.configure (appliedConfig v)).reply .ok (appliedConfig v).bytes

/-- CONFIG_LANE (R180). -/
def execConfigLane (tag : Nat) (values : LaneValues) (s : State) : Result :=
  .next (s.request (.configLane tag values) (State.configLaneEvent values))

/-- STOP at its block (R123). -/
def State.stopEvent (s : State) : State :=
  if s.inService then (s.stopRequest .host 0).reply .ok [] else s.reply .wrongMode []

/-- STOP (R123). -/
def execStop (tag : Nat) (s : State) : Result := .next (s.request (.stop tag) State.stopEvent)

/-- RESTART at its block: the reply leaves first (R185). -/
def State.restartEvent (s : State) : State := s.reply .ok []

/-- RESTART (R185). -/
def execRestart (tag : Nat) (s : State) : Result := .next (s.request (.restart tag) State.restartEvent)

end Sys2Proof.Machine
end

