-- ==== Sys2Proof/Machine/LinkEvents.lean ====
section
/-! DEFINITION. The commands of the lane links: LINK_FRAME_CHECK, LINK_RECEIVE_CUT_OFF, TRANSMIT_END, IDLE_FILL. -/

namespace Sys2Proof.Machine

/-- A good frame and the link state: the timer starts afresh, and a DOWN link comes UP (R163). -/
def State.heardLink (s : State) (port : LinkPort) : State :=
  let l := s.link port
  let s1 := s.setLink port { l with up := true, timer := some (s.time + s.config.linkTimeout) }
  if l.up then s1 else s1.raise (.link (s.peerLane port) .up)

/-- A good frame handed on by kind (R162; log 34). -/
def State.handFrame (s : State) (port : LinkPort) (f : Received) : State :=
  match f with
  | .idleFill => s
  | .digest sender cycle confirmed list => s.digestReceived port sender cycle confirmed list
  | .joinAsk sender => s.joinAsked port sender
  | .joinOffer pages => s.offerReceived port pages
  | .joinDecline reason => s.declineReceived port reason
  | .joinAbort reason => s.abortReceived port reason
  | .page page offset words => s.pageReceived port page offset words
  | .lockImage timers => s.imageReceived port timers
  | .syncMark cycle list => s.syncReceived port cycle list

/-- A frame received whole, checked (R161, R162). -/
def State.checkFrame (s : State) (port : LinkPort) (frame : List Word) : State :=
  match checkLinkFrame frame with
  | some f => (s.heardLink port).handFrame port f
  | none => s.checkFail port

/-- The state with the receive buffer of a link. -/
def State.setLinkRx (s : State) (port : LinkPort) (rx : List Word) : State := s.setLink port { s.link port with rx := rx }

/-- The frame in the receive buffer has all its words (R156). -/
def linkFrameWhole (rx : List Word) : Bool :=
  match rx with
  | _ :: head :: _ => decide (head.toNat % 4096 ≤ rx.length)
  | [_] => false
  | [] => false

/-- One word arrives on the receive line (R161). -/
def State.receiveWord (port : LinkPort) (s : State) (w : Word) : State :=
  match (s.link port).rx with
  | [] => if w = syncWord then s.setLinkRx port [w] else s
  | x :: xs =>
    let rx := x :: xs ++ [w]
    if linkFrameWhole rx then (s.setLinkRx port []).checkFrame port rx else s.setLinkRx port rx

/-- LINK_FRAME_CHECK; words that arrive in the start-up sweep are not taken (R156, R161; log 5). -/
def execLinkFrameCheck (port : LinkPort) (words : List Word) (s : State) : Result :=
  if s.sweeping then .next s else .next (words.foldl (State.receiveWord port) s)

/-- LINK_RECEIVE_CUT_OFF: a frame in part received is ended and fails its check (R161). -/
def execLinkReceiveCutOff (port : LinkPort) (s : State) : Result :=
  match (s.link port).rx with
  | [] => .next s
  | _ :: _ => .next ((s.setLinkRx port []).checkFail port)

/-- The frame leaving ends and the arbiter chooses (R159). When the head of a full bulk queue begins to leave, a serve
over this link makes its next send step in the same event (R158; log 41). -/
def State.transmitEnded (s : State) (port : LinkPort) : State :=
  let s1 := s.setLink port (({ s.link port with leaving := none } : Link).arbitrate s.time)
  if !s.bulkRoom port && s1.bulkRoom port then s1.resumeSend port else s1

/-- TRANSMIT_END (R158, R159). -/
def execTransmitEnd (port : LinkPort) (s : State) : Result :=
  match (s.link port).leaving with
  | some _ => .next (s.transmitEnded port)
  | none => .next s

/-- Nothing waits and nothing leaves on a link (R160). -/
def Link.quiet (l : Link) : Bool := l.leaving.isNone && l.control.isEmpty && l.bulk.isEmpty

/-- The idle fill begins to leave (R160). -/
def State.sendFill (s : State) (port : LinkPort) : State :=
  s.setLink port ((s.link port).depart s.time ⟨s.config.lane, .idleFill⟩ .fill)

/-- IDLE_FILL: 5 ms after the last frame or fill began to leave (R160; log 1). -/
def execIdleFill (port : LinkPort) (s : State) : Result :=
  if !s.sweeping && (s.link port).quiet then .next ((s.passTo ((s.link port).idleFrom + 5)).sendFill port) else .next s

end Sys2Proof.Machine
end

