-- ==== Sys2Proof/Machine/LockRequests.lean ====
section
/-! DEFINITION. The requests LOCK_ARM, LOCK_CANCEL, LOCK_READ. -/

namespace Sys2Proof.Machine

/-- The second and third checks of R74: a mode of its table, with a gate given as the mode asks. -/
def armForm (modeCode : Nat) (gate : Option Nat) : Option LockMode :=
  match LockMode.ofCode modeCode, gate with
  | some .plain, none => some .plain
  | some .pause, some _ => some .pause
  | some .rearm, some _ => some .rearm
  | _, _ => none

/-- The gate address, where one is given, lies in a VITAL region (R74). -/
def State.gateFitsRegion (s : State) (gate : Option Nat) : Bool :=
  match gate with
  | some g => s.goodGate g
  | none => true

/-- The reply of an arm: the result code and the preset applied (R187). -/
def armPayload (index result preset : Nat) : List Byte := field1 index ++ field1 result ++ field2 preset

/-- A LOCK-ARM whose arguments pass (R75, R76). -/
def State.arm (s : State) (index : Nat) (mode : LockMode) (gate : Option Nat) (preset : Nat) : State :=
  let r := s.lock index
  match r.timer.state with
  | .running =>
    if r.timer.mode = some .rearm ∧ mode = .rearm ∧ r.timer.gate = gate then
      (s.setLock index { r with timer := { r.timer with pending := some preset } }).reply .ok (armPayload index 2 preset)
    else s.reply .wrongState []
  | .idle => (s.setLock index (r.start mode gate preset)).reply .ok (armPayload index 1 preset)
  | .expired => (s.setLock index (r.start mode gate preset)).reply .ok (armPayload index 1 preset)

/-- LOCK-ARM at its block (R73, R74). -/
def State.lockArmEvent (index modeCode : Nat) (gate : Option Nat) (preset : Nat) (s : State) : State :=
  if !s.inService then s.reply .wrongMode []
  else if 47 < index then s.reply .badArgument []
  else
    match armForm modeCode gate with
    | none => s.reply .badArgument []
    | some mode =>
      if s.gateFitsRegion gate then s.arm index mode gate (clampPreset preset) else s.reply .badArgument []

/-- LOCK_ARM (R74). -/
def execLockArm (tag index modeCode : Nat) (gate : Option Nat) (preset : Nat) (s : State) : Result :=
  .next (s.request (.lockArm tag index modeCode gate preset) (State.lockArmEvent index modeCode gate preset))

/-- The reply of a LOCK-CANCEL (R187; log 20). -/
def cancelPayload (index result : Nat) (before : LockState) (release : Option Int) (overwritten : Bool) : List Byte :=
  field1 index ++ field1 result ++ field1 before.code ++ releaseBytes release ++ flagByte overwritten

/-- A LOCK-CANCEL whose index is good (R77). -/
def State.cancelLock (s : State) (index : Nat) : State :=
  let r := s.lock index
  if r.timer.state = .idle then s.reply .ok (cancelPayload index 4 .idle none r.overwritten)
  else
    let r1 := r.cancel
    (s.setLock index r1).reply .ok (cancelPayload index 3 r.timer.state r1.release r1.overwritten)

/-- LOCK-CANCEL at its block (R73, R77). -/
def State.lockCancelEvent (index : Nat) (s : State) : State :=
  if !s.inService then s.reply .wrongMode []
  else if 47 < index then s.reply .badArgument []
  else s.cancelLock index

/-- LOCK_CANCEL (R77). -/
def execLockCancel (tag index : Nat) (s : State) : Result :=
  .next (s.request (.lockCancel tag index) (State.lockCancelEvent index))

/-- The release values of a run of records collected (R79). -/
def State.collectLocks (s : State) (first count : Nat) : State :=
  { s with locks := s.locks.mapIdx fun k r => if first ≤ k ∧ k < first + count then r.collect else r }

/-- The reply of a LOCK-READ (R79, R187). -/
def State.lockReadPayload (s : State) (first count : Nat) : List Byte :=
  field1 count ++ (List.range count).flatMap fun k => (s.lock (first + k)).bytes (first + k)

/-- LOCK-READ at its block (R73, R79). -/
def State.lockReadEvent (first count : Nat) (s : State) : State :=
  if !s.inService then s.reply .wrongMode []
  else if 47 < first ∨ count = 0 ∨ 48 < count ∨ 48 < first + count then s.reply .badArgument []
  else (s.collectLocks first count).reply .ok (s.lockReadPayload first count)

/-- LOCK_READ (R79). -/
def execLockRead (tag first count : Nat) (s : State) : Result :=
  .next (s.request (.lockRead tag first count) (State.lockReadEvent first count))

end Sys2Proof.Machine
end

