-- ==== Sys2Proof/Machine/Opening.lean ====
section
/-! DEFINITION. The commands of the family of OPEN: OPEN_COLD, OPEN_JOIN, OPEN_MAPPING_END,
OPEN_COLD_ZERO_FILL_WRITE, OPEN_COLD_COMPLETION. -/

namespace Sys2Proof.Machine

/-! ### Taking an OPEN -/

/-- The pages of the defined regions, by region id and ascending (R30). -/
def State.regionPages (s : State) : List Nat := s.definedRegions.flatMap fun x => x.2.pages

/-- The pages that an OPEN maps, in its order (R30). -/
def State.pagesToMap (s : State) : List Nat := s.regionPages.filter fun p => !(s.page p).mapped

/-- An OPEN taken, or refused with NO-FRAMES, once its mode check has passed (R117, R30). -/
def State.openTaken (s : State) (kind : OpenKind) : State :=
  let toMap := s.pagesToMap.length
  if s.countFrames .free < toMap then s.reply .noFrames (field1 toMap ++ field1 (s.countFrames .free))
  else { s with lane := { s.lane with stopCause := none }, opening := some ⟨kind, .mapping, toMap⟩ }

/-- OPEN COLD at its block (R117). -/
def State.openColdEvent (s : State) : State := if s.isOffline then s.openTaken .cold else s.reply .wrongMode []

/-- OPEN_COLD (R117). -/
def execOpenCold (tag : Nat) (s : State) : Result := .next (s.request (.openCold tag) State.openColdEvent)

/-- OPEN JOIN at its block (R117). -/
def State.openJoinEvent (s : State) : State :=
  if s.isOffline || s.lane.mode == some .stopped then s.openTaken .join else s.reply .wrongMode []

/-- OPEN_JOIN (R117). -/
def execOpenJoin (tag : Nat) (s : State) : Result := .next (s.request (.openJoin tag) State.openJoinEvent)

/-! ### Mapping and settings -/

/-- The entry of a page mapped by an OPEN (R31). -/
def mappedEntry (kind : OpenKind) (cls : RegionClass) (frame : Nat) : PageEntry :=
  match kind, cls with
  | .join, .vital => .restoring frame
  | .join, .lane => .active frame
  | .cold, _ => .active frame

/-- One UNMAPPED page mapped on the lowest FREE frame (R28, R30). -/
def State.mapPage (kind : OpenKind) (cls : RegionClass) (s : State) (page : Nat) : State :=
  match s.page page, s.lowestFree with
  | .unmapped, some frame => (s.allocate frame page).setPage page (mappedEntry kind cls frame)
  | _, _ => s

/-- The pages of one region mapped, ascending (R30). -/
def State.mapRegion (kind : OpenKind) (s : State) (id : Nat) : State :=
  match s.region id with
  | some r => r.pages.foldl (State.mapPage kind r.cls) s
  | none => s

/-- The mapping of an OPEN: every region in id order (R30). -/
def State.mapAll (s : State) (kind : OpenKind) : State := (List.range 16).foldl (State.mapRegion kind) s

/-- The entry of a VITAL page after an OPEN (R31). -/
def PageEntry.opened (kind : OpenKind) (e : PageEntry) : PageEntry :=
  match kind with
  | .cold => e.restored
  | .join => e.toRestore

/-- The state of a VITAL region after an OPEN (R24, R31). -/
def openedState : OpenKind → RegionState
  | .cold => .clean
  | .join => .incomplete

/-- A region's state set by an OPEN, with the end of a pass on it and the selection of a WAITING patrol (R31, R58,
R69). -/
def State.settleRegion (s : State) (id : Nat) (r : Region) (st : RegionState) : State :=
  let s1 := (s.setRegion id (some { r with state := st })).endPassOn id
  if s1.eligible id then s1.selectIfWaiting else s1

/-- The settings of one region by an OPEN; `before` tells the pages that were mapped before it (R31; log 17). -/
def State.openRegion (kind : OpenKind) (before : Nat → Bool) (s : State) (id : Nat) : State :=
  match s.region id with
  | none => s
  | some r =>
    match r.cls with
    | .vital => (r.pages.foldl (fun s p => s.setPage p ((s.page p).opened kind)) s).settleRegion id r (openedState kind)
    | .lane => if r.pages.all before then s else s.settleRegion id r .clean

/-- The settings of an OPEN at the map and patrol units, the lock table and the vote unit (R31, R69, R91, R114). -/
def State.openSettings (s : State) (kind : OpenKind) (before : Nat → Bool) : State :=
  ((List.range 16).foldl (State.openRegion kind before) s).clearLocks.openVote

/-- OPEN JOIN completes (R119, R133, R145). -/
def State.joinOpened (s : State) (allocated : Nat) : State :=
  State.reply
    { s with
      lane := { s.lane with mode := some .joining, confirmed := false, deadline := none }
      serve := none
      join := some Join.begin
      opening := none }
    .ok (field1 LaneMode.joining.code ++ field1 allocated)

/-- The mapping of an OPEN ends (R30), a warm restart that waited acts (log 16), or the OPEN goes on (R118, R119). -/
def State.mappingEnded (s : State) (o : Opening) : State :=
  let before := fun p => (s.page p).mapped
  let s1 := s.mapAll o.kind
  if s.restartDue then s1.warmRestart
  else
    let s2 := s1.openSettings o.kind before
    match o.kind with
    | .join => s2.joinOpened o.allocated
    | .cold => { s2 with opening := some { o with phase := .filling ((s.vitalPages.filter before).map fun p => (p, 0)) } }

/-- OPEN_MAPPING_END (R30, R118, R119; log 15). -/
def execOpenMappingEnd (s : State) : Result :=
  match s.opening with
  | some ⟨kind, .mapping, allocated⟩ => .next (s.mappingEnded ⟨kind, .mapping, allocated⟩)
  | some ⟨_, .filling _, _⟩ => .next s
  | none => .next s

/-! ### The zero-fill of OPEN COLD -/

/-- The pages left after one more word of a page (R17). -/
def fillOn (page : Nat) (left : List (Nat × Nat)) : List (Nat × Nat) :=
  (left.map fun e => if e.1 = page then (e.1, e.2 + 1) else e).filter fun e => decide (e.2 < 256)

/-- OPEN_COLD_ZERO_FILL_WRITE (R17, R118; log 14). -/
def execOpenColdZeroFillWrite (page : Nat) (s : State) : Result :=
  match s.opening with
  | some ⟨kind, .filling left, allocated⟩ =>
    match left.find? (fun e => e.1 == page) with
    | some (_, offset) =>
      .next { s.writeWord page offset 0 with opening := some ⟨kind, .filling (fillOn page left), allocated⟩ }
    | none => .next s
  | some ⟨_, .mapping, _⟩ => .next s
  | none => .next s

/-- OPEN COLD completes (R118, R122, R133). -/
def State.coldOpened (s : State) (allocated : Nat) : State :=
  State.reply
    { s with
      lane := { s.lane with mode := some .service, confirmed := false, deadline := some (s.time + s.config.deadline) }
      serve := none
      join := none
      opening := none }
    .ok (field1 LaneMode.service.code ++ field1 allocated)

/-- OPEN_COLD_COMPLETION (R118). -/
def execOpenColdCompletion (s : State) : Result :=
  match s.opening with
  | some ⟨_, .filling [], allocated⟩ => .next (s.coldOpened allocated)
  | some ⟨_, .filling (_ :: _), _⟩ => .next s
  | some ⟨_, .mapping, _⟩ => .next s
  | none => .next s

end Sys2Proof.Machine
end

