-- ==== Sys2Proof/Machine/Regions.lean ====
section
/-! DEFINITION. The requests CONFIG_REGION and CONFIG_REGION_CLEAR. -/

namespace Sys2Proof.Machine

/-- The seed applied (R22). -/
def seedOf (n : Nat) : Nat := max 1 (min 65536 n)

/-- The page range meets the pages of a defined region other than `id` (R22). -/
def State.overlaps (s : State) (id first count : Nat) : Bool :=
  (List.range 16).any fun k =>
    match s.region k with
    | some r => decide (k ≠ id) && decide (first < r.first + r.count) && decide (r.first < first + count)
    | none => false

/-- A region record as its definition makes it (R22, R42, R45). -/
def Region.define (first count : Nat) (cls : RegionClass) (seed : Nat) : Region :=
  ⟨first, count, cls, seed, zeroImage count seed, .clean⟩

/-- A region undefined: unmapped if it was defined (R23). -/
def State.clearRegion (s : State) (id : Nat) : State :=
  match s.region id with
  | some r => s.unmapRegion id r
  | none => s

/-- The arguments of CONFIG-REGION pass the checks of R22. -/
def State.regionFits (s : State) (id first count : Nat) : Bool :=
  decide (id ≤ 15) && decide (1 ≤ count ∧ count ≤ 16) && decide (first ≤ 119 ∧ first + count ≤ 120) &&
    !s.overlaps id first count

/-- CONFIG-REGION at its block (R22, R187). -/
def State.configRegionEvent (id first count classCode seed : Nat) (s : State) : State :=
  if !s.isOffline then s.reply .wrongMode []
  else
    match RegionClass.ofCode classCode with
    | none => s.reply .badArgument []
    | some cls =>
      if s.regionFits id first count then
        let r := Region.define first count cls (seedOf seed)
        ((s.clearRegion id).setRegion id (some r)).reply .ok (field1 id ++ field3 r.seed ++ field3 r.live.val)
      else s.reply .badArgument []

/-- CONFIG_REGION (R22). -/
def execConfigRegion (tag id firstPage pageCount classCode seed : Nat) (s : State) : Result :=
  .next (s.request (.configRegion tag id firstPage pageCount classCode seed)
    (State.configRegionEvent id firstPage pageCount classCode seed))

/-- CONFIG-REGION CLEAR at its block (R23, R187). -/
def State.configRegionClearEvent (id : Nat) (s : State) : State :=
  if !s.isOffline then s.reply .wrongMode []
  else if 15 < id then s.reply .badArgument []
  else (s.clearRegion id).reply .ok (field1 id ++ field3 0 ++ field3 0)

/-- CONFIG_REGION_CLEAR (R23). -/
def execConfigRegionClear (tag id : Nat) (s : State) : Result :=
  .next (s.request (.configRegionClear tag id) (State.configRegionClearEvent id))

end Sys2Proof.Machine
end

