-- ==== Sys2Proof/Machine/Resets.lean ====
section
/-! DEFINITION. The commands of the family of resets: POWER_ON, START_UP_SWEEP_END, RESTART_INPUT. -/

namespace Sys2Proof.Machine

/-- POWER_ON (R18). -/
def execPowerOn (s : State) : Result := .next s.poweredOn

/-- START_UP_SWEEP_END (R18). -/
def execStartUpSweepEnd (s : State) : Result := .next s.sweepEnded

/-- RESTART_INPUT (R18, R128, R185): without effect in the sweep, put off during a mapping, an ADOPT or a lock advance. -/
def execRestartInput (s : State) : Result :=
  if s.sweeping then .next s
  else if s.restartWaits then .next { s with restartDue := true }
  else .next s.warmRestart

end Sys2Proof.Machine
end

