-- ==== Sys2Proof/Machine/Timers.lean ====
section
/-! DEFINITION. The timers that run out: WINDOW_EXPIRY, DEADLINE_EXPIRY, HALF_PERIOD_EXPIRY, SILENCE_TIMER_EXPIRY,
LINK_TIMEOUT. Each carries the timebase to the instant at which its timer runs out (log 1). -/

namespace Sys2Proof.Machine

/-- WINDOW_EXPIRY (R105). -/
def execWindowExpiry (s : State) : Result :=
  match s.vote.window with
  | some t => .next (s.passTo t).decideVote
  | none => .next s

/-- DEADLINE_EXPIRY (R122). -/
def execDeadlineExpiry (s : State) : Result :=
  match s.lane.deadline with
  | some t => .next ((s.passTo t).stopRequest .deadline 0)
  | none => .next s

/-- The phase after a toggle (R130). -/
def WavePhase.toggle : WavePhase → WavePhase
  | .aHigh => .aLow
  | .aLow => .aHigh

/-- A toggle of the waves, and the half-period that begins with it (R130, R131). -/
def State.toggleWave (s : State) (w : Wave) : State :=
  { s with health := { s.health with wave := some ⟨w.phase.toggle, s.halfPeriod, s.time + s.halfPeriod⟩ } }

/-- HALF_PERIOD_EXPIRY (R130). -/
def execHalfPeriodExpiry (s : State) : Result :=
  match s.health.wave with
  | some w => .next ((s.passTo w.toggleAt).toggleWave w)
  | none => .next s

/-- The silence timer of a join record (R148). -/
def State.silenceTimer (s : State) : Option Nat :=
  match s.join with
  | some j => j.silence
  | none => none

/-- SILENCE_TIMER_EXPIRY (R148). -/
def execSilenceTimerExpiry (s : State) : Result :=
  match s.silenceTimer with
  | some t => .next ((s.passTo t).failAttempt .donorSilent (some .donorSilent))
  | none => .next s

/-- A link goes DOWN, and a serve to its peer ends (R163, R144). -/
def State.linkDown (s : State) (port : LinkPort) : State :=
  let s1 := (s.setLink port { s.link port with up := false, timer := none }).raise (.link (s.peerLane port) .down)
  if s1.serving port then s1.endServe .linkDown none else s1

/-- LINK_TIMEOUT (R163). -/
def execLinkTimeout (port : LinkPort) (s : State) : Result :=
  match (s.link port).timer with
  | some t => .next ((s.passTo t).linkDown port)
  | none => .next s

end Sys2Proof.Machine
end

