-- ==== Sys2Proof/Machine/Dispatch.lean ====
section
/-! DEFINITION. The meaning of every command: one arm per constructor, each one call of a meaning. -/

namespace Sys2Proof.Machine

/-- The effect of a command on everything but the queue. -/
def exec (i : Instr) (s : State) : Host.Outcome State Fault Refusal :=
  match i with
  | .powerOn => Sys2Proof.Machine.execPowerOn s
  | .startUpSweepEnd => Sys2Proof.Machine.execStartUpSweepEnd s
  | .restartInput => Sys2Proof.Machine.execRestartInput s
  | .oneBitDisturbance frame offset => Sys2Proof.Machine.execOneBitDisturbance frame offset s
  | .silentDisturbance frame offset value => Sys2Proof.Machine.execSilentDisturbance frame offset value s
  | .hostFrameCheck bytes => Sys2Proof.Machine.execHostFrameCheck bytes s
  | .hostFrameCutOff => Sys2Proof.Machine.execHostFrameCutOff s
  | .replyEnd => Sys2Proof.Machine.execReplyEnd s
  | .status tag => Sys2Proof.Machine.execStatus tag s
  | .configLane tag values => Sys2Proof.Machine.execConfigLane tag values s
  | .configRegion tag id firstPage pageCount classCode seed => Sys2Proof.Machine.execConfigRegion tag id firstPage pageCount classCode seed s
  | .configRegionClear tag id => Sys2Proof.Machine.execConfigRegionClear tag id s
  | .openCold tag => Sys2Proof.Machine.execOpenCold tag s
  | .openJoin tag => Sys2Proof.Machine.execOpenJoin tag s
  | .openMappingEnd => Sys2Proof.Machine.execOpenMappingEnd s
  | .openColdZeroFillWrite page => Sys2Proof.Machine.execOpenColdZeroFillWrite page s
  | .openColdCompletion => Sys2Proof.Machine.execOpenColdCompletion s
  | .stop tag => Sys2Proof.Machine.execStop tag s
  | .read tag address count => Sys2Proof.Machine.execRead tag address count s
  | .hostReadWord => Sys2Proof.Machine.execHostReadWord s
  | .write tag address count words => Sys2Proof.Machine.execWrite tag address count words s
  | .hostWriteWord => Sys2Proof.Machine.execHostWriteWord s
  | .fill tag page value => Sys2Proof.Machine.execFill tag page value s
  | .adopt tag region => Sys2Proof.Machine.execAdopt tag region s
  | .cycleClose tag cycle => Sys2Proof.Machine.execCycleClose tag cycle s
  | .gateRead => Sys2Proof.Machine.execGateRead s
  | .lockAdvance => Sys2Proof.Machine.execLockAdvance s
  | .lockArm tag index modeCode gate preset => Sys2Proof.Machine.execLockArm tag index modeCode gate preset s
  | .lockCancel tag index => Sys2Proof.Machine.execLockCancel tag index s
  | .lockRead tag first count => Sys2Proof.Machine.execLockRead tag first count s
  | .take tag => Sys2Proof.Machine.execTake tag s
  | .doneClass tag cls => Sys2Proof.Machine.execDoneClass tag cls s
  | .doneNoClass tag => Sys2Proof.Machine.execDoneNoClass tag s
  | .mask tag set => Sys2Proof.Machine.execMask tag set s
  | .priorityFixed tag => Sys2Proof.Machine.execPriorityFixed tag s
  | .priorityRotating tag => Sys2Proof.Machine.execPriorityRotating tag s
  | .prioritySetLowest tag cls => Sys2Proof.Machine.execPrioritySetLowest tag cls s
  | .frames tag first count => Sys2Proof.Machine.execFrames tag first count s
  | .poison tag => Sys2Proof.Machine.execPoison tag s
  | .restart tag => Sys2Proof.Machine.execRestart tag s
  | .patrolStep => Sys2Proof.Machine.execPatrolStep s
  | .moveTake => Sys2Proof.Machine.execMoveTake s
  | .moveStep => Sys2Proof.Machine.execMoveStep s
  | .windowExpiry => Sys2Proof.Machine.execWindowExpiry s
  | .deadlineExpiry => Sys2Proof.Machine.execDeadlineExpiry s
  | .halfPeriodExpiry => Sys2Proof.Machine.execHalfPeriodExpiry s
  | .linkFrameCheck port words => Sys2Proof.Machine.execLinkFrameCheck port words s
  | .linkReceiveCutOff port => Sys2Proof.Machine.execLinkReceiveCutOff port s
  | .silenceTimerExpiry => Sys2Proof.Machine.execSilenceTimerExpiry s
  | .sendStep => Sys2Proof.Machine.execSendStep s
  | .finalSendStep => Sys2Proof.Machine.execFinalSendStep s
  | .lockImageQueued => Sys2Proof.Machine.execLockImageQueued s
  | .syncMarkQueued => Sys2Proof.Machine.execSyncMarkQueued s
  | .transmitEnd port => Sys2Proof.Machine.execTransmitEnd port s
  | .idleFill port => Sys2Proof.Machine.execIdleFill port s
  | .linkTimeout port => Sys2Proof.Machine.execLinkTimeout port s

end Sys2Proof.Machine
end

