-- ==== Sys2Proof/Safety.lean ====
section
/-! DEFINITION. What the spec promises of the whole part at every point of a run: the laws of the image, of the lane, of
the lock table, of a serve, of the attention output, of the capacities and of the configuration, as properties of one
state; and the words in which statements speak of requests, answers, unmapped regions and warm restarts. -/

namespace Sys2Proof.Machine

/-! ### The lane (R112, R115, R121, R122, R129, R133) -/

/-- What holds during the start-up sweep: no mode, nothing put off, and no RESTART in service (R18, R115, R176). -/
def State.SweepLaw (s : State) : Prop :=
  s.sweep.isSome → s.lane.mode = none ∧ s.restartDue = false ∧ (∀ id, s.region id = none) ∧
    ∀ v, s.port.service = some v → v.kind = 1

/-- The laws of the lane: the waves run only in SERVICE with confirmed set (R129), confirmed only in SERVICE (R121), the
deadline runs exactly in SERVICE (R122), a vote is open only in SERVICE (R113) with its window (R92), a serve only in
SERVICE and a join only in JOINING (R133), an OPEN only in OFFLINE or STOPPED (R117). -/
def State.LaneLaw (s : State) : Prop :=
  (s.health.wave.isSome → s.inService = true ∧ s.lane.confirmed = true) ∧
    (s.lane.confirmed = true → s.inService = true) ∧
    s.lane.deadline.isSome = s.inService ∧
    (s.vote.state = .opened → s.inService = true) ∧
    (s.vote.window.isSome → s.vote.state = .opened) ∧
    (s.serve.isSome → s.inService = true) ∧
    (s.join.isSome → s.isJoining = true) ∧
    (s.opening.isSome → s.isOffline = true ∨ s.lane.mode = some .stopped) ∧
    s.SweepLaw

/-! ### Time locks (R72) -/

/-- The mode, gate and preset of a RUNNING or EXPIRED record: a gate in a VITAL region in PAUSE and REARM, none in PLAIN
(R72, R74). -/
def State.ArmedLaw (s : State) (t : LockTimer) : Prop :=
  1 ≤ t.preset ∧ t.preset ≤ 60000 ∧
    (t.mode = some .plain ∧ t.gate = none ∨
      (t.mode = some .pause ∨ t.mode = some .rearm) ∧ ∃ g, t.gate = some g ∧ g < 30720 ∧ s.isVital (g / 256) = true)

/-- The fields of a lock record by its state (R72). -/
def State.TimerLaw (s : State) (t : LockTimer) : Prop :=
  match t.state with
  | .idle => t = ⟨.idle, none, none, 0, none, 0, false⟩
  | .running => s.ArmedLaw t ∧ 1 ≤ t.remaining ∧ t.remaining ≤ t.preset ∧ t.overrange = false ∧
    ∀ p, t.pending = some p → t.mode = some .rearm ∧ 1 ≤ p ∧ p ≤ 60000
  | .expired => s.ArmedLaw t ∧ -4095 ≤ t.remaining ∧ t.remaining ≤ 0 ∧ t.pending = none ∧
    (t.overrange = true → t.remaining = -4095)

/-- Every lock record keeps the fields of its state and its release value in range (R72), and all are IDLE before the first
OPEN and in OFFLINE (R91). -/
def State.LockLaw (s : State) : Prop :=
  (∀ k, s.TimerLaw (s.lock k).timer ∧ ∀ x, (s.lock k).release = some x → -4095 ≤ x ∧ x ≤ 60000) ∧
    (s.lane.mode = none ∨ s.lane.mode = some .offline → ∀ k, (s.lock k).timer.state = .idle)

/-! ### The serve record (R134) -/

/-- The laws of the serve record: its sets hold VITAL pages, ascending; the dirty set is empty unless in BULK; the final set
holds no more than F pages and is empty with no decision made; the slots in use are of different pages of the final set and
no more than it; the page in send is VITAL (R134, R137, R139, R140, R142, R143). -/
def State.ServeLaw (s : State) : Prop :=
  ∀ v, s.serve = some v →
    v.dirty.Pairwise (· < ·) ∧ v.finalSet.Pairwise (· < ·) ∧
    (∀ p ∈ v.dirty, s.isVital p = true) ∧ (∀ p ∈ v.finalSet, s.isVital p = true) ∧
    (v.phase = .final → v.dirty = [] ∧ v.pendingCycle = none) ∧
    (v.phase = .bulk → v.pendingCycle = none → v.finalSet = [] ∧ v.slots = []) ∧
    (v.phase = .bulk → v.pendingCycle.isSome → v.inSend = none) ∧
    (v.slots.map Slot.page).Nodup ∧ (∀ x ∈ v.slots, x.page ∈ v.finalSet) ∧ v.slots.length ≤ v.finalSet.length ∧
    v.finalSet.length ≤ s.config.finalLimit ∧ v.convergence ≤ 32 ∧
    ∀ x, v.inSend = some x → s.isVital x.page = true ∧ x.next < 256 ∧
      (v.phase = .final → x.page ∈ v.finalSet ∧ x.page ∉ v.fullySent)

/-! ### Attention (R168) -/

/-- ATTN is high exactly when a TAKE would return a class (R168). -/
def State.AttnLaw (s : State) : Prop := s.attention.attn = s.attention.offered.isSome

/-! ### Capacities and saturating counts (00) -/

/-- The queues and lists within their capacities, with no two poison entries of one address and no frame twice in the move
queue (R12, R33, R155, R174). -/
def State.CapacityLaw (s : State) : Prop :=
  s.poison.length ≤ 32 ∧ (s.poison.map PoisonEntry.address).Nodup ∧ s.moveQueue.length ≤ 8 ∧ s.moveQueue.Nodup ∧
    s.port.owed.length ≤ 16 ∧ (∀ port, (s.link port).control.length ≤ 4) ∧ (∀ port, (s.link port).bulk.length ≤ 2)

/-- The saturating counts within their maxima (00, Saturating counts), and the lowest class a class (R166). -/
def State.CountLaw (s : State) : Prop :=
  (∀ f, (s.frame f).count ≤ 255) ∧ (∀ port, (s.link port).errors ≤ 255) ∧ (∀ port, (s.peer port).late ≤ 255) ∧
    (∀ k, (s.attention.cls k).count ≤ 255) ∧ (∀ port, (s.peer port).miss ≤ 15) ∧ s.attention.lowest ≤ 7

/-- The configuration within the limits of its values (R180). -/
def State.ConfigLaw (s : State) : Prop :=
  s.config.lane ≤ 2 ∧ (10 ≤ s.config.window ∧ s.config.window ≤ 1000) ∧
    (100 ≤ s.config.deadline ∧ s.config.deadline ≤ 10000) ∧ (1 ≤ s.config.missLimit ∧ s.config.missLimit ≤ 15) ∧
    (2 ≤ s.config.halfPeriod ∧ s.config.halfPeriod ≤ 50) ∧ s.config.pace ≤ 64 ∧
    (1 ≤ s.config.retire ∧ s.config.retire ≤ 15) ∧ (1 ≤ s.config.finalLimit ∧ s.config.finalLimit ≤ 4) ∧
    (s.config.burst = 8 ∨ s.config.burst = 32 ∨ s.config.burst = 128) ∧
    25 ≤ s.config.linkTimeout ∧ s.config.linkTimeout ≤ 5000

/-! ### The image (R21, R25, R27, R36, R42) -/

/-- The defined regions lie in the page space, each of 1 to 16 pages, and share no page (R21). -/
def State.RegionLaw (s : State) : Prop :=
  (∀ id r, s.region id = some r → 1 ≤ r.count ∧ r.count ≤ 16 ∧ r.first + r.count ≤ 120) ∧
    (∀ i j r q, s.region i = some r → s.region j = some q → i ≠ j →
      r.first + r.count ≤ q.first ∨ q.first + q.count ≤ r.first) ∧
    ∀ page, (s.page page).mapped = true → (s.regionOf page).isSome

/-- An entry names a frame, as its frame or as the new frame of its move (R25). -/
def PageEntry.names : PageEntry → Nat → Prop
  | .unmapped, _ => False
  | .active f, k => k = f
  | .restoring f, k => k = f
  | .poisoned f, k => k = f
  | .moving f g _ _ _, k => k = f ∨ k = g

/-- The pool and the page map agree: an IN_USE frame is named by the entry of its page and by no other, a FREE or RETIRED
frame backs no page and is not WORN, and the move engine moves the one MOVING page, from one frame to another (R27,
R34). -/
def State.PoolLaw (s : State) : Prop :=
  (∀ page k, (s.page page).names k → k < 128 ∧ (s.frame k).state = .inUse ∧ (s.frame k).page = some page) ∧
    (∀ k page, (s.frame k).page = some page → (s.frame k).state = .inUse ∧ (s.page page).names k) ∧
    (∀ k, (s.frame k).worn = true → (s.frame k).state = .inUse) ∧
    (∀ page f g c p r, s.page page = .moving f g c p r → s.moving = some page ∧ f ≠ g ∧ c < 256 ∧ (s.frame g).worn = false) ∧
    ∀ page, s.moving = some page → ∃ f g c p r, s.page page = .moving f g c p r

/-- Below the move cursor both frames hold the same written values (R36). -/
def State.MoveLaw (s : State) : Prop :=
  ∀ page f g c p r, s.page page = .moving f g c p r → ∀ o, o < c → (s.cell f o).written = (s.cell g o).written

/-- The live digest of every defined region is the digest formula over its written values (R42). -/
def State.DigestLaw (s : State) : Prop := ∀ id r, s.region id = some r → r.live = s.regionDigest r

/-- The zero-fill of an OPEN stands at a word of each page it has left (R17, R118). -/
def State.FillLaw (s : State) : Prop :=
  ∀ kind left n, s.opening = some ⟨kind, .filling left, n⟩ → ∀ e ∈ left, e.2 < 256

/-- The laws of the image together. -/
def State.ImageLaw (s : State) : Prop := s.RegionLaw ∧ s.PoolLaw ∧ s.MoveLaw ∧ s.DigestLaw ∧ s.FillLaw

/-! ### How statements speak of requests -/

/-- The request `c` of this kind and tag reaches its block: it is in service and handed to it, or the port is IDLE and
takes its frame as it arrives (R176, R177; log 3). -/
def State.given (s : State) (kind tag : Nat) (c : Instr) : Prop :=
  s.port.service = some ⟨kind, tag, some c⟩ ∨ s.port.service = none ∧ (s.sweeping = false ∨ kind = 1)

/-- The port with a request in service that its block has taken up. -/
def HostPort.inHand (p : HostPort) (kind tag : Nat) : HostPort := { p with service := some ⟨kind, tag, none⟩ }

/-- The port with the reply to that request made ready. -/
def HostPort.answered (p : HostPort) (kind tag : Nat) (outcome : ReplyOutcome) (payload : List Byte) : HostPort :=
  (p.inHand kind tag).push ⟨.reply, kind, tag, outcome, payload⟩

/-- The state with a request in service that its block has taken up, and nothing else changed. -/
def State.inHand (s : State) (kind tag : Nat) : State := { s with port := s.port.inHand kind tag }

/-- The state with the request answered, and nothing else changed. -/
def State.answered (s : State) (kind tag : Nat) (outcome : ReplyOutcome) (payload : List Byte) : State :=
  { s with port := s.port.answered kind tag outcome payload }

/-! ### What unmapping leaves (R23, R29, R33, R39, R68) -/

/-- A frame record as freeing leaves it: FREE, or RETIRED if it was WORN, with its count kept (R29). -/
def FrameRecord.freed (f : FrameRecord) : FrameRecord :=
  { f with state := if f.worn then .retired else .free, worn := false, page := none }

/-- The frame that holds all written values of a page: its frame, the old one of a move (R25, R36). -/
def PageEntry.backing : PageEntry → Option Nat
  | .unmapped => none
  | .active f => some f
  | .restoring f => some f
  | .poisoned f => some f
  | .moving f _ _ _ _ => some f

/-- The RETIRE details that the unmapping of a page raises: of WORN frames freed, and of a move abandoned between the two
(R23, R29, R39; the place of the ABANDONED raise is the model's choice, log 23). -/
def State.unmapRaises (s : State) (page : Nat) : List Detail :=
  let retired := fun (f : Nat) => if (s.frame f).worn then [Detail.retire f page .retired] else []
  match s.page page with
  | .moving f g _ _ _ => retired g ++ [.retire f page .abandoned] ++ retired f
  | .active f => retired f
  | .restoring f => retired f
  | .poisoned f => retired f
  | .unmapped => []

/-- `t` stands as the unmapping of region `id`, if it is defined, leaves the map unit, the poison list, the patrol and the
attention controller of `s`; a pass on it ends, and the next region is selected. -/
def State.RegionUnmapped (s t : State) (id : Nat) : Prop :=
  (s.region id = none → t.pages = s.pages ∧ t.frames = s.frames ∧ t.moveQueue = s.moveQueue ∧ t.moving = s.moving ∧
    t.poison = s.poison ∧ t.patrol = s.patrol ∧ t.attention = s.attention) ∧
  ∀ r, s.region id = some r →
    (∀ page ∈ r.pages, t.page page = .unmapped) ∧ (∀ page, page ∉ r.pages → t.page page = s.page page) ∧
    t.poison = s.poison.filter (fun e => !r.pages.contains (e.address / 256)) ∧
    t.moveQueue = s.moveQueue.filter (fun k => !r.pages.any fun page => (s.page page).backing == some k) ∧
    ((∃ page ∈ r.pages, ∃ f g c p q, s.page page = .moving f g c p q) → t.moving = none) ∧
    ((∀ page ∈ r.pages, ∀ f g c p q, s.page page ≠ .moving f g c p q) → t.moving = s.moving) ∧
    (s.PoolLaw →
      (∀ k page, page ∈ r.pages → (s.frame k).page = some page → t.frame k = (s.frame k).freed) ∧
      (∀ k, (∀ page ∈ r.pages, (s.frame k).page ≠ some page) → t.frame k = s.frame k) ∧
      t.attention = (r.pages.flatMap s.unmapRaises).foldl Attention.raise s.attention) ∧
    ((∀ p, s.patrol.pass = some p → p.region ≠ id) → t.patrol = s.patrol) ∧
    ∀ p, s.patrol.pass = some p → p.region = id →
      t.patrol =
        if s.config.pace = 0 then ⟨s.patrol.walk, none⟩
        else
          match (walkOrder s.patrol.walk).find? (fun j => j != id && t.eligible j) with
          | some j => ⟨some j, some ⟨j, 0, 0, false⟩⟩
          | none => ⟨s.patrol.walk, none⟩

/-! ### The patrol through the settings of an OPEN (R57, R58, R59, R69; log 17) -/

/-- Region `j` is eligible when an OPEN that takes `s` to `t` settles region `k`: it has settled the regions up to `k`, the
later ones stand as before, and every page it maps is mapped. -/
def State.readyAt (s t : State) (k j : Nat) : Bool :=
  match if j ≤ k then t.region j else s.region j with
  | none => false
  | some r => r.pages.all (fun page => (t.page page).mapped) && !(r.cls == .vital && r.state == .incomplete)

/-- The selection that a patrol with no pass makes at the settling of region `k`. -/
def State.selectedAt (s t : State) (k : Nat) (p : Patrol) : Patrol :=
  if s.config.pace = 0 then ⟨p.walk, none⟩
  else
    match (walkOrder p.walk).find? (s.readyAt t k) with
    | some j => ⟨some j, some ⟨j, 0, 0, false⟩⟩
    | none => ⟨p.walk, none⟩

/-- The patrol after the OPEN that takes `s` to `t` settles region `id`. A LANE region mapped before it has no state set; of
any other, a pass ends and a selection follows, and a patrol that waits selects if the region is eligible. -/
def State.settledAt (s t : State) (p : Patrol) (id : Nat) : Patrol :=
  match s.region id with
  | none => p
  | some r =>
    if r.cls == .lane && r.pages.all (fun page => (s.page page).mapped) then p
    else
      let ended := match p.pass with
        | some q => if q.region = id then s.selectedAt t id p else p
        | none => p
      if s.readyAt t id id && ended.pass.isNone then s.selectedAt t id ended else ended

/-! ### What a warm restart leaves (R19, R29, R39, R41, R71, R91, R114, R128, R132, R133, R165, R173) -/

/-- `t` stands as a warm restart of `s` leaves every block but the port. The poison list stays whole (log 45). -/
def State.WarmRestarted (s t : State) : Prop :=
  t.lane = ⟨some .offline, false, s.lane.stopCause, none⟩ ∧ t.health = ⟨none, false⟩ ∧
    t.vote = ⟨0, .none, none, none, none⟩ ∧ t.peerU = PeerRecord.cleared ∧ t.peerV = PeerRecord.cleared ∧
    t.locks = Vector.replicate 48 LockRecord.cleared ∧ t.advance = none ∧ t.serve = none ∧ t.join = none ∧
    t.attention = Attention.cleared ∧ t.moveQueue = [] ∧ t.moving = none ∧ t.opening = none ∧ t.run = none ∧
    t.restartDue = false ∧
    t.linkU = { s.linkU with control := [], bulk := [] } ∧ t.linkV = { s.linkV with control := [], bulk := [] } ∧
    t.mem = s.mem ∧ t.poison = s.poison ∧ t.regions = s.regions ∧ t.config = s.config ∧ t.time = s.time ∧
    t.sweep = s.sweep ∧ t.pending = s.pending ∧
    ((∀ page f g c p r, s.moving = some page → s.page page ≠ .moving f g c p r) → t.pages = s.pages ∧ t.frames = s.frames) ∧
    (∀ page f g c p r, s.moving = some page → s.page page = .moving f g c p r →
      t.page page = settledEntry f p r ∧ (∀ k, k ≠ g → t.frame k = s.frame k) ∧
        (g < 128 → t.frame g = (s.frame g).freed)) ∧
    (∀ page, s.moving ≠ some page → t.page page = s.page page) ∧
    (s.config.pace = 0 → t.patrol = ⟨none, none⟩) ∧
    (0 < s.config.pace → t.patrol =
      match (List.range 16).find? (fun id => t.eligible id) with
      | some id => ⟨some id, some ⟨id, 0, 0, false⟩⟩
      | none => ⟨none, none⟩)

end Sys2Proof.Machine
end

