-- ==== Sys2Proof/WellFormed.lean ====
section
/-! DEFINITION. Which commands the outside can give: every operand fits the field of R187 that carries it, a disturbed
word lies in the store (R1), and bytes or words that arrive are at least one. A command that is well formed may still be
refused by the part (BAD-ARGUMENT and the rest): that is its meaning's business. -/

namespace Sys2Proof

/-- The values of CONFIG-LANE fit their fields (R187). -/
def LaneValues.wf (v : LaneValues) : Bool :=
  v.lane < 256 && v.window < 65536 && v.deadline < 65536 && v.missLimit < 256 && v.halfPeriod < 256 && v.pace < 256 &&
    v.retire < 256 && v.finalLimit < 256 && v.burst < 256 && v.linkTimeout < 65536 && v.serveEnable < 256

/-- A gate field: FFFF stands for no gate, so a gate given is below it (R187). -/
def gateFits (gate : Option Nat) : Bool :=
  match gate with
  | none => true
  | some g => g < 65535

/-- The operands of a command fit their fields. -/
def Instr.wf (i : Instr) : Bool :=
  match i with
  | .powerOn => true
  | .startUpSweepEnd => true
  | .restartInput => true
  | .oneBitDisturbance frame offset => frame < Config.frameCount && offset < Config.pageWords
  | .silentDisturbance frame offset _ => frame < Config.frameCount && offset < Config.pageWords
  | .hostFrameCheck bytes => !bytes.isEmpty
  | .hostFrameCutOff => true
  | .replyEnd => true
  | .status tag => tag < 65536
  | .configLane tag values => tag < 65536 && values.wf
  | .configRegion tag id firstPage pageCount classCode seed =>
    tag < 65536 && id < 256 && firstPage < 256 && pageCount < 256 && classCode < 256 && seed < 16777216
  | .configRegionClear tag id => tag < 65536 && id < 256
  | .openCold tag => tag < 65536
  | .openJoin tag => tag < 65536
  | .openMappingEnd => true
  | .openColdZeroFillWrite page => page < Config.pageCount
  | .openColdCompletion => true
  | .stop tag => tag < 65536
  | .read tag address count => tag < 65536 && address < 65536 && count < 256
  | .hostReadWord => true
  | .write tag address count words => tag < 65536 && address < 65536 && count < 256 && words.length == count
  | .hostWriteWord => true
  | .fill tag page _ => tag < 65536 && page < 256
  | .adopt tag region => tag < 65536 && region < 256
  | .cycleClose tag cycle => tag < 65536 && cycle < 4294967296
  | .gateRead => true
  | .lockAdvance => true
  | .lockArm tag index modeCode gate preset =>
    tag < 65536 && index < 256 && modeCode < 256 && gateFits gate && preset < 65536
  | .lockCancel tag index => tag < 65536 && index < 256
  | .lockRead tag first count => tag < 65536 && first < 256 && count < 256
  | .take tag => tag < 65536
  | .doneClass tag cls => tag < 65536 && cls < 255
  | .doneNoClass tag => tag < 65536
  | .mask tag _ => tag < 65536
  | .priorityFixed tag => tag < 65536
  | .priorityRotating tag => tag < 65536
  | .prioritySetLowest tag cls => tag < 65536 && cls < 256
  | .frames tag first count => tag < 65536 && first < 256 && count < 256
  | .poison tag => tag < 65536
  | .restart tag => tag < 65536
  | .patrolStep => true
  | .moveTake => true
  | .moveStep => true
  | .windowExpiry => true
  | .deadlineExpiry => true
  | .halfPeriodExpiry => true
  | .linkFrameCheck _ words => !words.isEmpty
  | .linkReceiveCutOff _ => true
  | .silenceTimerExpiry => true
  | .sendStep => true
  | .finalSendStep => true
  | .lockImageQueued => true
  | .syncMarkQueued => true
  | .transmitEnd _ => true
  | .idleFill _ => true
  | .linkTimeout _ => true

end Sys2Proof
end

