-- ==== Sys2Proof/Certificates/Slice0/Obligations.lean ====
section
/-! DEFINITION. What is stated of the part for the provers. A request statement is made for a request that is given
(`State.given`): handed to its block, or arriving at an idle port. `s.inHand kind tag` and `s.answered kind tag …` are `s`
with only the port changed. A statement of the form `t = { s with … }` is also its frame: every field not named is
unchanged. -/

section

open Sys2Proof Sys2Proof.Machine

/-! ### The machine -/

/-- A step runs the command at the front of the queue on the state with the rest of the queue; with no command waiting one
millisecond passes, which is the model's own choice (log 1). -/
def Obligations.StepRunsFrontCommand : Prop :=
  (∀ (c : Instr) (rest : List Instr) (s : State), s.pending = c :: rest → step s = exec c { s with pending := rest }) ∧
    ∀ s : State, s.pending = [] → step s = .next { s with time := s.time + 1 }

/-- No command touches the queue of waiting commands. -/
def Obligations.CommandsKeepQueue : Prop := ∀ (c : Instr) (s t : State), exec c s = .next t → t.pending = s.pending

/-- Every well-formed command ends in a next state. A disturbance of a word that the store does not have (R1) faults, which is
the model's own choice (log 32, DESIGN CHOICE), and no other command does not go on. -/
def Obligations.OnlyMissingWordsStop : Prop :=
  (∀ (c : Instr) (s : State), c.wf = true → ∃ t, exec c s = .next t) ∧
    (∀ (c : Instr) (s : State), (∃ t, exec c s = .next t) ∨
      ∃ frame offset, exec c s = .fault (.noStoreWord frame offset) ∧ (128 ≤ frame ∨ 256 ≤ offset)) ∧
    ∀ (frame offset : Nat) (value : Word) (s : State), 128 ≤ frame ∨ 256 ≤ offset →
      exec (.oneBitDisturbance frame offset) s = .fault (.noStoreWord frame offset) ∧
        exec (.silentDisturbance frame offset value) s = .fault (.noStoreWord frame offset)

/-! ### Resets -/

/-- The application of power gives every block its power-on values, with the sweep at its first word (R18, R41, R71, R91,
R114, R115, R129, R165, R173, R174, R180). The model's own choices, which no rule states: a word that the sweep has not
written yet reads as 0, 0, CLEAN (log 7, DESIGN CHOICE); the waiting commands and the model's counter of free values stay
(log 6, 8). -/
def Obligations.PowerOnValues : Prop :=
  ∀ s : State, ∃ t, exec .powerOn s = .next t ∧ t = { State.reset with pending := s.pending, freeCount := s.freeCount } ∧
    t.sweep = some 0 ∧ t.poison = [] ∧ (∀ id, t.region id = none) ∧ (∀ page, t.page page = .unmapped) ∧
    (∀ k, t.frame k = ⟨.free, 0, false, none⟩) ∧ t.moveQueue = [] ∧ t.moving = none ∧ t.patrol = ⟨none, none⟩ ∧
    (∀ k, t.lock k = ⟨⟨.idle, none, none, 0, none, 0, false⟩, none, false⟩) ∧ t.vote = ⟨0, .none, none, none, none⟩ ∧
    (∀ port, t.peer port = ⟨.absent, 0, false, 0, none, none, false, 0⟩) ∧ t.lane = ⟨none, false, none, none⟩ ∧
    t.health = ⟨none, false⟩ ∧ t.serve = none ∧ t.join = none ∧
    (∀ port, t.link port = ⟨false, none, 0, [], [], none, [], 0⟩) ∧
    (∀ k, t.attention.cls k = ⟨false, false, false, 0, none⟩) ∧ t.attention.rotating = false ∧ t.attention.lowest = 7 ∧
    t.attention.attn = false ∧ t.port = ⟨none, [], none, [], []⟩ ∧
    t.config = ⟨0, 100, 1500, 3, 10, 8, 4, 4, 32, 1000, true⟩

/-- The end of the start-up sweep leaves every word it had not written at 0, 0, CLEAN, puts the lane OFFLINE and starts
the idle timers (R18, R115, R156). -/
def Obligations.SweepEndGoesOffline : Prop :=
  ∀ (s : State) (done : Nat), s.sweep = some done → s.mem.wf →
    ∃ t, exec .startUpSweepEnd s = .next t ∧
      t = { s with
        sweep := none
        mem := t.mem
        lane := { s.lane with mode := some .offline }
        linkU := { s.linkU with idleFrom := s.time }
        linkV := { s.linkV with idleFrom := s.time } } ∧
      ∀ k, t.mem.get k = if done ≤ k ∧ k < 32768 then ⟨0, .clean 0⟩ else s.mem.get k

/-- The RESTART input has no effect in the sweep, waits for a mapping, an ADOPT or a lock advance, and otherwise acts at
once on every block: lane, waves, vote, peers, locks, serve, join, links, attention, moves with their frames, patrol and
port (R18, R19, R39, R41, R71, R91, R114, R128, R132, R165, R173, R185). At the port the answer leaving, and of those that
wait the answers to frames not taken and the OK reply of a FILL, leave as answers that the port owes nothing more for, which
is the model's choice but for the FILL (R19) and the answer leaving (R185) going out (log 11, DESIGN CHOICE). The poison list
stays whole (R13, R19), also with an entry for a word that the abandoned move leaves CLEAN: the model's choice against R12 (log
45, DESIGN CHOICE). -/
def Obligations.RestartInputActs : Prop :=
  ∀ s : State, (s.sweeping = true → exec .restartInput s = .next s) ∧
    (s.sweeping = false → s.restartWaits = true → exec .restartInput s = .next { s with restartDue := true }) ∧
    (s.sweeping = false → s.restartWaits = false →
      ∃ t, exec .restartInput s = .next t ∧ s.WarmRestarted t ∧ t.port =
        { s.port with
          service := none
          owed := []
          line := s.port.line.map fun a => { a with role := .plain }
          ready := (s.port.ready.filter fun a => a.role == .plain || a.kind == 8 && a.outcome == .ok).map fun a => { a with role := .plain } })

/-! ### Disturbances -/

/-- A one-bit disturbance moves the check state of one word one step towards DOUBLE, keeps its written value, and changes
nothing else (R2). -/
def Obligations.OneBitDisturbanceMovesOneStep : Prop :=
  ∀ (s : State) (frame offset : Nat), frame < 128 → offset < 256 → s.sweep = none → s.mem.wf →
    ∃ t, exec (.oneBitDisturbance frame offset) s = .next t ∧ t = { s with mem := t.mem } ∧
      (∀ k, k ≠ wordKey frame offset → t.mem.get k = s.mem.get k) ∧
      (t.cell frame offset).written = (s.cell frame offset).written ∧
      (t.cell frame offset).content =
        match (s.cell frame offset).content with
        | .clean v => .single v
        | .single _ => .double
        | .double => .double

/-- A silent disturbance replaces the stored value of a CLEAN or SINGLE word and leaves it CLEAN, leaves a DOUBLE word
DOUBLE, keeps the written value, and changes nothing else (R3). -/
def Obligations.SilentDisturbanceReplacesStored : Prop :=
  ∀ (s : State) (frame offset : Nat) (value : Word), frame < 128 → offset < 256 → s.sweep = none → s.mem.wf →
    ∃ t, exec (.silentDisturbance frame offset value) s = .next t ∧ t = { s with mem := t.mem } ∧
      (∀ k, k ≠ wordKey frame offset → t.mem.get k = s.mem.get k) ∧
      (t.cell frame offset).written = (s.cell frame offset).written ∧
      (t.cell frame offset).content =
        match (s.cell frame offset).content with
        | .clean _ => .clean value
        | .single _ => .clean value
        | .double => .double

/-- A disturbance during the start-up sweep finds the sweep at some further word, whatever that word is, and acts on the
word as the sweep has left it by then (R18; log 6: the point is a free value). -/
def Obligations.DisturbanceDuringSweep : Prop :=
  ∀ (s : State) (frame offset done : Nat) (value : Word), frame < 128 → offset < 256 → s.sweep = some done →
    done ≤ 32768 → s.mem.wf →
    ∃ now, done ≤ now ∧ now ≤ 32768 ∧
      ∃ m, (∀ k, Memory.get m k = if done ≤ k ∧ k < now then ⟨0, .clean 0⟩ else s.mem.get k) ∧
        exec (.oneBitDisturbance frame offset) s = .next
          { s with
            sweep := some now
            freeCount := s.freeCount + 1
            mem := Memory.set m (wordKey frame offset) (Memory.get m (wordKey frame offset)).disturb } ∧
        exec (.silentDisturbance frame offset value) s = .next
          { s with
            sweep := some now
            freeCount := s.freeCount + 1
            mem := Memory.set m (wordKey frame offset) ((Memory.get m (wordKey frame offset)).silent value) }

/-! ### The host port -/

/-- Every well-formed request is read back from its kind, tag and payload, with the payload length that its kind requires; that
length is the one of R187's table, for a WRITE by its count (R186, R187). -/
def Obligations.RequestRoundTrip : Prop :=
  (∀ (c : Instr) (r : Request), c.wf = true → requestOf c = some r →
    readRequest r = some c ∧ r.payload.length = requiredLength r.kind r.payload ∧ 1 ≤ r.kind ∧ r.kind ≤ 20) ∧
  (∀ (kind : Nat) (payload : List Byte), 1 ≤ kind → kind ≤ 20 → kind ≠ 7 → requiredLength kind payload =
    [0, 14, 8, 1, 0, 3, 0, 3, 1, 4, 6, 1, 2, 0, 1, 1, 2, 2, 0, 0].getD (kind - 1) 0) ∧
  (∀ (a b count : Byte) (words : List Byte), requiredLength 7 (a :: b :: count :: words) = 3 + 2 * count.toNat) ∧
  ∀ payload : List Byte, payload.length ≤ 2 → requiredLength 7 payload = 3

/-- The frame of a well-formed request, arriving at an idle port, passes its check and is taken into service, and nothing
else changes (R175, R176, R177, R186). -/
def Obligations.RequestFrameTaken : Prop :=
  ∀ (c : Instr) (r : Request) (s : State), c.wf = true → requestOf c = some r → r.payload.length ≤ 131 →
    s.port.service = none → s.port.rx = [] → s.sweeping = false ∨ r.kind = 1 →
    exec (.hostFrameCheck r.frame) s = .next { s with port := { s.port with service := some ⟨r.kind, r.tag, some c⟩ } }

/-- A frame that fails its check raises PORT, and is answered BAD-FRAME at once by an idle port and owed that answer by a busy
one: a frame cut off by quiet on the line or by a start byte in a length position, which begins a new frame, and a whole frame
of an impossible length or a wrong check. A frame that passes is a request: owed BUSY beside one in service with PORT raised,
and at an idle port answered at once BAD-KIND, BAD-LENGTH, or in the sweep BUSY. A code that no row carries is refused as soon
as it is taken: an OPEN kind or PRIORITY form with BAD-ARGUMENT, a CONFIG-REGION operation with WRONG-MODE outside OFFLINE and
BAD-ARGUMENT in it (R175, R176, R177, R186, R187). That these refusals fall in the event of the check, the mode before the
code, is the model's reading (log 12, 35, DEDUCED); the kind byte of an owed BUSY is its choice (log 10, DESIGN CHOICE). -/
def Obligations.CutOffFrameAnswered : Prop :=
  (∀ s : State,
    let failed := fun (rx : List Byte) => match s.port.service with
      | none => ({ s with
          attention := s.attention.raise (.port .badFrame)
          port := ({ s.port with rx := rx } : HostPort).push ⟨.plain, 0, 0, .badFrame, []⟩ } : State)
      | some _ => { s with
          attention := s.attention.raise (.port .badFrame)
          port := { s.port with
            rx := rx
            owed := if s.port.owed.length < 16 then s.port.owed ++ [⟨0, 0, .badFrame, false⟩] else s.port.owed } }
    (s.port.rx ≠ [] → exec .hostFrameCutOff s = .next (failed [])) ∧
    (s.port.rx.length = 1 ∨ s.port.rx.length = 2 → exec (.hostFrameCheck [0xA5#8]) s = .next (failed [0xA5#8])) ∧
    ∀ (high low : Byte) (body : List Byte), s.port.rx = [] → high ≠ 0xA5#8 → low ≠ 0xA5#8 →
      let length := high.toNat * 256 + low.toNat
      body.length = length + 2 →
      length < 3 ∨ 134 < length ∨ body.drop length ≠ wordBytes (crcBytes (high :: low :: body.take length)) →
      exec (.hostFrameCheck (0xA5#8 :: high :: low :: body)) s = .next (failed [])) ∧
  ∀ (s : State) (r : Request), s.port.rx = [] → r.kind < 256 → r.tag < 65536 → r.payload.length ≤ 131 →
    let known := 1 ≤ r.kind ∧ r.kind ≤ 20
    let fits := r.payload.length = requiredLength r.kind r.payload
    let at_once := fun (o : ReplyOutcome) => ({ s with port := s.port.push ⟨.plain, r.kind, r.tag, o, []⟩ } : State)
    let unread := r.kind = 4 ∧ (∃ k, r.payload = [k] ∧ k ≠ 1 ∧ k ≠ 2) ∨
      r.kind = 17 ∧ (∃ form cls, r.payload = [form, cls] ∧ form ≠ 1 ∧ form ≠ 2 ∧ form ≠ 3) ∨
      r.kind = 3 ∧ r.payload.length = 8 ∧ ∃ id op rest, r.payload = id :: op :: rest ∧ op ≠ 0 ∧ op ≠ 1
    (∀ v, s.port.service = some v → exec (.hostFrameCheck r.frame) s = .next
      { s with
        attention := s.attention.raise (.port .busy)
        port := { s.port with
          owed := if s.port.owed.length < 16 then s.port.owed ++ [⟨r.kind, r.tag, .busy, false⟩] else s.port.owed } }) ∧
    (s.port.service = none → ¬ known → exec (.hostFrameCheck r.frame) s = .next (at_once .badKind)) ∧
    (s.port.service = none → known → ¬ fits → exec (.hostFrameCheck r.frame) s = .next (at_once .badLength)) ∧
    (s.port.service = none → known → fits → s.sweeping = true → r.kind ≠ 1 →
      exec (.hostFrameCheck r.frame) s = .next (at_once .busy)) ∧
    (s.port.service = none → s.sweeping = false → unread → exec (.hostFrameCheck r.frame) s = .next
      (s.answered r.kind r.tag (if r.kind = 3 ∧ s.isOffline = false then .wrongMode else .badArgument) []))

/-- A request whose frame comes while another request is in service is answered BUSY later, with PORT raised; one that
comes during the sweep is answered BUSY at once, STATUS apart. Neither has any other effect (R176, R177). That the owed
answer echoes the request's kind byte is the model's choice (log 10, DESIGN CHOICE). The row of the very request that is in
service and handed to its block is that block's event, not a second frame (log 3, DESIGN CHOICE), and is left out here. -/
def Obligations.RequestsTurnedAway : Prop :=
  ∀ (c : Instr) (r : Request) (s : State), c.wf = true → requestOf c = some r → r.payload.length ≤ 131 →
    (∀ v, s.port.service = some v → v.handed ≠ some c → exec c s = .next
      { s with
        attention := s.attention.raise (.port .busy)
        port := { s.port with
          owed := if s.port.owed.length < 16 then s.port.owed ++ [⟨r.kind, r.tag, .busy, false⟩] else s.port.owed } }) ∧
    (s.port.service = none → s.sweeping = true → r.kind ≠ 1 →
      exec c s = .next { s with port := s.port.push ⟨.plain, r.kind, r.tag, .busy, []⟩ })

/-- The end of a reply makes the port IDLE and every owed answer due, and the oldest due answer, else the oldest answer
that waits, begins to leave; the end of an owed answer takes it off the list; the reply of a RESTART is followed by the
warm restart (R174, R177, R178, R185). That an owed answer stays in the list until its last byte has gone, and goes before
the answers that wait, is the model's choice (log 10, DESIGN CHOICE), and so is which waiting answers outlast the restart
(log 11, DESIGN CHOICE). An answer made ready begins to leave at once on a quiet line, and else waits behind those made ready
before it (R178). -/
def Obligations.ReplyEndFreesPort : Prop :=
  (∀ (s : State) (a : Answer) (v : InService), s.port.line = some a → a.role = .reply → s.port.service = some v →
    v.kind ≠ 20 → exec .replyEnd s = .next
      { s with
        port := HostPort.next
          { s.port with line := none, service := none, owed := s.port.owed.map fun o => { o with due := true } } }) ∧
  (∀ (s : State) (a : Answer), s.port.line = some a → a.role = .owed → exec .replyEnd s = .next
      { s with port := HostPort.next { s.port with line := none, owed := s.port.owed.eraseP OwedAnswer.due } }) ∧
  (∀ (s : State) (a : Answer), s.port.line = some a → a.role = .plain →
    exec .replyEnd s = .next { s with port := HostPort.next { s.port with line := none } }) ∧
  (∀ (s : State) (a : Answer) (v : InService), s.port.line = some a → a.role = .reply → s.port.service = some v →
    v.kind = 20 → ∃ t, exec .replyEnd s = .next t ∧ s.WarmRestarted t ∧ t.port = HostPort.next
      { s.port with
        service := none
        owed := []
        line := none
        ready := (s.port.ready.filter fun a => a.role == .plain || a.kind == 8 && a.outcome == .ok).map fun a => { a with role := .plain } }) ∧
  (∀ (p : HostPort) (o : OwedAnswer), p.owed.find? OwedAnswer.due = some o →
    p.next = { p with line := some ⟨.owed, o.kind, o.tag, o.outcome, []⟩ }) ∧
  (∀ (p : HostPort) (a : Answer) (as : List Answer), p.owed.find? OwedAnswer.due = none → p.ready = a :: as →
    p.next = { p with line := some a, ready := as }) ∧
  (∀ (p : HostPort) (a : Answer), (p.line = none → p.push a = { p with line := some a }) ∧
    (p.line ≠ none → p.push a = { p with ready := p.ready ++ [a] })) ∧
  ∀ p : HostPort, p.owed.find? OwedAnswer.due = none → p.ready = [] → p.next = { p with line := none }

/-! ### Requests that report -/

/-- STATUS, FRAMES and POISON answer from the state as it stands and change nothing but the port, and FRAMES of a run outside
the frames is refused with BAD-ARGUMENT; the STATUS block is the
groups of R187 in order, each from its block, 81 bytes and 8 for each defined region (R133, R179, R184, R187, R188). The
model's choices: STATUS takes all groups in one event (log 13, DESIGN CHOICE), and the bytes that R187 leaves unsaid, which
are the cycle of an absent verdict record and the unused bytes of the transfer engine group, are 0 (log 20, DESIGN
CHOICE). -/
def Obligations.ReportingRequestsAnswer : Prop :=
  (∀ (s : State) (tag : Nat), s.given 1 tag (.status tag) →
    exec (.status tag) s = .next (s.answered 1 tag .ok s.statusBytes)) ∧
  (∀ (s : State) (tag first count : Nat), s.given 18 tag (.frames tag first count) →
    first ≤ 127 → 1 ≤ count → count ≤ 128 → first + count ≤ 128 →
    exec (.frames tag first count) s = .next (s.answered 18 tag .ok
      (field1 count ++ (List.range count).flatMap fun k => (s.frame (first + k)).bytes (first + k)))) ∧
  (∀ (s : State) (tag first count : Nat), s.given 18 tag (.frames tag first count) →
    127 < first ∨ count = 0 ∨ 128 < count ∨ 128 < first + count →
    exec (.frames tag first count) s = .next (s.answered 18 tag .badArgument [])) ∧
  (∀ (s : State) (tag : Nat), s.given 19 tag (.poison tag) →
    exec (.poison tag) s = .next (s.answered 19 tag .ok
      (field1 s.poison.length ++ s.poison.flatMap fun e => field2 e.address ++ field1 e.source.code ++ field4 e.cycle))) ∧
  (∀ s : State, s.statusBytes.length = 81 + 8 * s.definedRegions.length) ∧
  (∀ s : State, s.definedRegions = (List.range 16).filterMap fun id => (s.region id).map fun r => (id, r)) ∧
  ∀ s : State, ∃ pending served masked : Byte,
    (∀ k, k < 8 → pending.getLsbD k = (s.attention.cls k).pending ∧ served.getLsbD k = (s.attention.cls k).inService ∧
      masked.getLsbD k = (s.attention.cls k).masked) ∧
    let mode := match s.lane.mode with
      | some .offline => 0
      | some .joining => 1
      | some .service => 2
      | some .stopped => 3
      | none => 255
    let cause := match s.lane.stopCause with
      | none => 0
      | some .host => 1
      | some .outvoted => 2
      | some .noMajority => 3
      | some .alone => 4
      | some .deadline => 5
      | some .store => 6
      | some .silent => 7
      | some .joinFailed => 8
    let verdict := fun v : Verdict => match v with
      | .agreed => 1
      | .peerDivergent => 2
      | .outvoted => 3
      | .noMajority => 4
      | .alone => 5
    let c := s.config
    let peer := fun port : LinkPort =>
      let p := s.peer port
      field1 (s.peerLane port) ++ field1 (match p.state with
        | .absent => 0
        | .present => 1
        | .divergent => 2
        | .joining => 3) ++ field4 p.lastCycle ++ flagByte p.confirmed ++ field1 p.miss ++
        field4 (match p.early with
          | some e => e.cycle
          | none => 0) ++ flagByte p.earlyOverwritten ++ field1 p.late
    let pool := fun st : FrameState => field1 (s.frames.toList.countP fun f => f.state == st)
    s.statusBytes =
      flagByte (!s.sweeping) ++ field1 mode ++ flagByte s.lane.confirmed ++ field1 cause ++
      (field1 c.lane ++ field2 c.window ++ field2 c.deadline ++ field1 c.missLimit ++ field1 c.halfPeriod ++ field1 c.pace ++
        field1 c.retire ++ field1 c.finalLimit ++ field1 c.burst ++ field2 c.linkTimeout ++ flagByte c.serveEnable) ++
      (field4 s.vote.lastClosed ++ field1 (match s.vote.state with
        | .none => 0
        | .opened => 1
        | .decided => 2) ++
        match s.vote.lastVerdict with
        | some v => field4 v.cycle ++ field1 (verdict v.verdict) ++ field1 v.participants ++ field1 (v.odd.getD 255)
        | none => field4 0 ++ field1 0 ++ field1 0 ++ field1 255) ++
      (if s.peerLane .u < s.peerLane .v then peer .u ++ peer .v else peer .v ++ peer .u) ++
      (field1 0 ++ field1 (s.peerLane .u) ++ flagByte s.linkU.up ++ field1 s.linkU.errors ++
        (field1 1 ++ field1 (s.peerLane .v) ++ flagByte s.linkV.up ++ field1 s.linkV.errors)) ++
      (match s.serve, s.join with
        | some v, _ => field1 1 ++ field1 (if v.phase = .bulk then 1 else 2) ++ field1 (s.peerLane v.receiver) ++ field1 0 ++
          field1 (if v.phase = .bulk then v.sentOnce.length else v.fullySent.length) ++ field1 v.slots.length
        | none, some j => field1 2 ++ field1 (match j.phase with
            | .waiting => 1
            | .asked => 2
            | .landing => 3) ++ field1 (match j.candidate with
            | some port => s.peerLane port
            | none => 255) ++ field1 j.attempts ++ field1 j.landed.length ++ field1 0
        | none, none => field1 0 ++ field1 0 ++ field1 255 ++ field1 0 ++ field1 0 ++ field1 0) ++
      (pool .free ++ pool .inUse ++ pool .retired ++ field1 (s.frames.toList.countP fun f => f.worn)) ++
      field1 s.poison.length ++ [pending, served, masked] ++ field1 s.definedRegions.length ++
      s.definedRegions.flatMap fun x =>
        field1 x.1 ++ field1 x.2.first ++ field1 x.2.count ++ field1 (if x.2.cls = .vital then 1 else 2) ++
          field3 x.2.seed ++ field1 (match x.2.state with
            | .clean => 0
            | .incomplete => 1
            | .suspect => 2)

/-! ### The lane -/

/-- CONFIG-LANE in OFFLINE applies every value with its clamp, answers with the values applied, empties both queues of
each link when the lane number changes, and makes a WAITING patrol select when the pace is raised from 0; it is refused in
every other mode and for a bad lane number or serve enable (R58, R59, R165, R180, R187). -/
def Obligations.ConfigLaneApplies : Prop :=
  ∀ (s : State) (tag : Nat) (v : LaneValues), s.given 2 tag (.configLane tag v) →
    (s.isOffline = false → exec (.configLane tag v) s = .next (s.answered 2 tag .wrongMode [])) ∧
    (s.isOffline = true → 2 < v.lane ∨ 1 < v.serveEnable →
      exec (.configLane tag v) s = .next (s.answered 2 tag .badArgument [])) ∧
    (s.isOffline = true → v.lane ≤ 2 → v.serveEnable ≤ 1 →
      ∃ t, exec (.configLane tag v) s = .next t ∧
        t.config = ⟨v.lane, max 10 (min 1000 v.window), max 100 (min 10000 v.deadline), max 1 (min 15 v.missLimit),
          max 2 (min 50 v.halfPeriod), max 0 (min 64 v.pace), max 1 (min 15 v.retire), max 1 (min 4 v.finalLimit),
          if 128 ≤ v.burst then 128 else if 32 ≤ v.burst then 32 else 8, max 25 (min 5000 v.linkTimeout),
          v.serveEnable == 1⟩ ∧
        t = { s with
          config := t.config
          port := s.port.answered 2 tag .ok t.config.bytes
          patrol := t.patrol
          linkU := if v.lane = s.config.lane then s.linkU else { s.linkU with control := [], bulk := [] }
          linkV := if v.lane = s.config.lane then s.linkV else { s.linkV with control := [], bulk := [] } } ∧
        (¬ (s.config.pace = 0 ∧ 0 < v.pace ∧ s.patrol.pass = none) → t.patrol = s.patrol) ∧
        (s.config.pace = 0 → 0 < v.pace → s.patrol.pass = none →
          t.patrol = match (walkOrder s.patrol.walk).find? (fun i => s.eligible i) with
            | some id => ⟨some id, some ⟨id, 0, 0, false⟩⟩
            | none => s.patrol))

/-- A stop request acts by the mode it finds: in SERVICE every cause but JOIN-FAILED stops the lane, in JOINING only
JOIN-FAILED does, and in any other case nothing changes. The entry to STOPPED drops an open vote, ends a serve with
DONOR-LEFT, and raises VOTE with the detail of the last verdict record and the cause, and STORE for cause SILENT. A serve
that ends withdraws the bulk frames of its link, queues the JOIN-ABORT where one is sent, makes a JOINING receiver ABSENT and
raises RESTORE (R112, R124, R125, R126, R144, R158). That waiting frames of an earlier serve that ended SERVED go with them is
the model's choice between R158 and R144 (log 46, DESIGN CHOICE). -/
def Obligations.StopRequestByMode : Prop :=
  (∀ (s : State) (reason : RestoreReason) (abort : Option RestoreReason), s.serve = none → s.endServe reason abort = s) ∧
  (∀ (s : State) (reason : RestoreReason) (abort : Option RestoreReason) (v : Serve), s.serve = some v →
    let port := v.receiver
    ∃ t, s.endServe reason abort = t ∧
      t.link port = (match abort with
        | some r => ({ s.link port with bulk := [] } : Link).putControl s.time ⟨s.config.lane, .joinAbort r⟩
        | none => { s.link port with bulk := [] }) ∧
      t.link (otherPort port) = s.link (otherPort port) ∧
      t.peer port = { s.peer port with
        state := if (s.peer port).state = .joining then .absent else (s.peer port).state } ∧
      t.peer (otherPort port) = s.peer (otherPort port) ∧
      t = { s with
        serve := none
        linkU := t.linkU
        linkV := t.linkV
        peerU := t.peerU
        peerV := t.peerV
        attention := s.attention.raise (.restore .donor .aborted (some reason) s.vote.lastClosed) }) ∧
  ∀ (s : State) (cause : StopCause) (region : Nat),
    let stops := s.lane.mode = some .service ∧ cause ≠ .joinFailed ∨ s.lane.mode = some .joining ∧ cause = .joinFailed
    (¬ stops → s.stopRequest cause region = s) ∧
    (stops → ∃ t, s.stopRequest cause region = t ∧ t.lane = ⟨some .stopped, false, some cause, none⟩ ∧
      t.health = ⟨none, false⟩ ∧ t.serve = none ∧ t.join = none ∧
      (s.vote.state = .opened → t.vote = { s.vote with state := .none, window := none }) ∧
      (s.vote.state ≠ .opened → t.vote = s.vote) ∧
      (∀ port, t.peer port = { s.peer port with
        held := if s.vote.state = .opened then none else (s.peer port).held
        state := if s.serving port = true ∧ (s.peer port).state = .joining then .absent else (s.peer port).state }) ∧
      (∀ port, t.link port =
        if s.serving port = true
        then ({ s.link port with bulk := [] } : Link).putControl s.time ⟨s.config.lane, .joinAbort .donorLeft⟩
        else s.link port) ∧
      t.attention = (
        let ended := match s.serve with
          | some _ => s.attention.raise (.restore .donor .aborted (some .donorLeft) s.vote.lastClosed)
          | none => s.attention
        let told := match s.vote.lastVerdict with
          | some v => ended.raise (.vote v.cycle (some v.verdict) (some v.participants) v.odd (some cause))
          | none => ended.raise (.vote s.vote.lastClosed none none none (some cause))
        if cause = .silent then told.raise (.store none region .vital .patrol) else told) ∧
      t = { s with
        lane := t.lane
        health := t.health
        serve := none
        join := none
        vote := t.vote
        peerU := t.peerU
        peerV := t.peerV
        linkU := t.linkU
        linkV := t.linkV
        attention := t.attention })

/-- STOP in SERVICE makes the stop request of cause HOST and answers OK, and in any other mode is refused; RESTART is
answered OK, the restart waiting for the end of that reply (R123, R185). -/
def Obligations.StopAndRestartRequests : Prop :=
  (∀ (s : State) (tag : Nat), s.given 5 tag (.stop tag) →
    (s.inService = false → exec (.stop tag) s = .next (s.answered 5 tag .wrongMode [])) ∧
    (s.inService = true → exec (.stop tag) s = .next ((s.stopRequest .host 0).answered 5 tag .ok []))) ∧
  ∀ (s : State) (tag : Nat), s.given 20 tag (.restart tag) → exec (.restart tag) s = .next (s.answered 20 tag .ok [])

/-! ### Regions -/

/-- CONFIG-REGION in OFFLINE writes a region record with the seed applied and the zero-image digest; CLEAR makes the region
undefined; both first unmap the region that was defined: its pages UNMAPPED, their frames freed, moves of them abandoned,
their frames out of the move queue, their poison entries gone, RETIRE raised for WORN frames and abandoned moves, and a pass
on it ended. Both are refused in every other mode and for bad arguments (R13, R22, R23, R29, R33, R39, R42, R68, R187). The
place of the ABANDONED raise among the raises is the model's choice (log 23, DEDUCED). -/
def Obligations.ConfigRegionActs : Prop :=
  (∀ (s : State) (tag id first count classCode seed : Nat),
    let c := Instr.configRegion tag id first count classCode seed
    let fits := id ≤ 15 ∧ 1 ≤ count ∧ count ≤ 16 ∧ first ≤ 119 ∧ first + count ≤ 120 ∧
      ∀ k r, k ≠ id → s.region k = some r → r.first + r.count ≤ first ∨ first + count ≤ r.first
    let seed1 := max 1 (min 65536 seed)
    s.given 3 tag c →
    (s.isOffline = false → exec c s = .next (s.answered 3 tag .wrongMode [])) ∧
    (s.isOffline = true → ¬ fits ∨ (classCode ≠ 1 ∧ classCode ≠ 2) →
      exec c s = .next (s.answered 3 tag .badArgument [])) ∧
    (∀ cls, s.isOffline = true → fits → classCode = RegionClass.code cls →
      ∃ t, exec c s = .next t ∧ t.region id = some ⟨first, count, cls, seed1, zeroImage count seed1, .clean⟩ ∧
        (∀ j, j ≠ id → t.region j = s.region j) ∧ s.RegionUnmapped t id ∧
        t = { s with
          regions := t.regions
          pages := t.pages
          frames := t.frames
          moveQueue := t.moveQueue
          moving := t.moving
          poison := t.poison
          patrol := t.patrol
          attention := t.attention
          port := s.port.answered 3 tag .ok (field1 id ++ field3 seed1 ++ field3 (zeroImage count seed1).val) })) ∧
  ∀ (s : State) (tag id : Nat), s.given 3 tag (.configRegionClear tag id) →
    (s.isOffline = false → exec (.configRegionClear tag id) s = .next (s.answered 3 tag .wrongMode [])) ∧
    (s.isOffline = true → 15 < id → exec (.configRegionClear tag id) s = .next (s.answered 3 tag .badArgument [])) ∧
    (s.isOffline = true → id ≤ 15 →
      ∃ t, exec (.configRegionClear tag id) s = .next t ∧ t.region id = none ∧ (∀ j, j ≠ id → t.region j = s.region j) ∧
        s.RegionUnmapped t id ∧
        t = { s with
          regions := t.regions
          pages := t.pages
          frames := t.frames
          moveQueue := t.moveQueue
          moving := t.moving
          poison := t.poison
          patrol := t.patrol
          attention := t.attention
          port := s.port.answered 3 tag .ok (field1 id ++ [0, 0, 0, 0, 0, 0]) })

/-! ### OPEN -/

/-- OPEN COLD in OFFLINE, and OPEN JOIN in OFFLINE or STOPPED, is taken if the FREE frames suffice: the stop cause goes and
the mapping begins. It is refused with NO-FRAMES if they do not, and with WRONG-MODE in another mode (R30, R117, R187). -/
def Obligations.OpenTakenOrRefused : Prop :=
  ∀ (s : State) (tag : Nat) (kind : OpenKind),
    let c := match kind with
      | .cold => Instr.openCold tag
      | .join => Instr.openJoin tag
    let takes := match kind with
      | .cold => s.lane.mode = some .offline
      | .join => s.lane.mode = some .offline ∨ s.lane.mode = some .stopped
    let toMap := s.pagesToMap.length
    let free := s.countFrames .free
    s.given 4 tag c →
    (¬ takes → exec c s = .next (s.answered 4 tag .wrongMode [])) ∧
    (takes → free < toMap → exec c s = .next (s.answered 4 tag .noFrames (field1 toMap ++ field1 free))) ∧
    (takes → toMap ≤ free → exec c s = .next
      { s with
        port := s.port.inHand 4 tag
        lane := { s.lane with stopCause := none }
        opening := some ⟨kind, .mapping, toMap⟩ })

/-- The end of the mapping maps every UNMAPPED page of every defined region on a frame that was FREE, zero-filled, and makes
the settings of the OPEN: page entries and marks, region states, every lock record IDLE, the vote unit at cycle 0. A pass on a
region whose state is set ends and a selection follows, and a patrol that waits selects when a region is eligible. OPEN JOIN
then completes in JOINING with a fresh join record; OPEN COLD goes on to fill the VITAL pages mapped before it (R17, R28,
R30, R31, R58, R69, R91, R114, R118, R119, R145). A warm restart that waited finds the mapping complete and no setting made,
which is the model's reading (log 16, DEDUCED), and so are the one event of all settings with their order, in which the
selections fall (log 17, DESIGN CHOICE), and of all allocations (log 15, DESIGN CHOICE). -/
def Obligations.MappingEndSettles : Prop :=
  (∀ (s : State) (kind : OpenKind) (n : Nat), s.opening = some ⟨kind, .mapping, n⟩ → s.restartDue = true →
    ∃ t, exec .openMappingEnd s = .next t ∧ (s.mapAll kind).WarmRestarted t ∧ t.port = s.port.restarted) ∧
  ∀ (s : State) (kind : OpenKind) (n : Nat) (v : InService), s.opening = some ⟨kind, .mapping, n⟩ →
    s.restartDue = false → s.port.service = some v →
    ∃ t, exec .openMappingEnd s = .next t ∧ t.locks = Vector.replicate 48 LockRecord.cleared ∧
      t.vote = ⟨0, .none, none, none, none⟩ ∧
      (∀ port, t.peer port =
        { s.peer port with miss := 0, held := none, early := none, earlyOverwritten := false, late := 0 }) ∧
      (∀ id r, s.region id = some r → r.cls = .vital →
        t.region id = some { r with
          state := match kind with
            | .cold => .clean
            | .join => .incomplete }) ∧
      (∀ id r, s.region id = some r → r.cls = .lane →
        ((∀ page ∈ r.pages, (s.page page).mapped = true) → t.region id = some r) ∧
        ((∃ page ∈ r.pages, (s.page page).mapped = false) → t.region id = some { r with state := .clean })) ∧
      (∀ id, s.region id = none → t.region id = none) ∧
      t.mem = (s.mapAll kind).mem ∧ t.frames = (s.mapAll kind).frames ∧
      (∀ page, (∀ id r, s.region id = some r → page ∉ r.pages) → t.page page = s.page page) ∧
      (∀ k, (s.frame k).state ≠ .free → t.frame k = s.frame k ∧ ∀ o, o < 256 → t.cell k o = s.cell k o) ∧
      (s.RegionLaw → s.pagesToMap.length ≤ s.countFrames .free →
        ∀ id r page, s.region id = some r → page ∈ r.pages →
          let settled := fun f => if kind = .join ∧ r.cls = .vital then PageEntry.restoring f else .active f
          (s.page page = .unmapped → ∃ k, (s.frame k).state = .free ∧ t.page page = settled k ∧
            t.frame k = { s.frame k with state := .inUse, page := some page } ∧ ∀ o, o < 256 → t.cell k o = ⟨0, .clean 0⟩) ∧
          (r.cls = .vital → ∀ f, s.page page = .active f ∨ s.page page = .restoring f → t.page page = settled f) ∧
          (r.cls = .vital → ∀ f g c pm rm, s.page page = .moving f g c pm rm →
            t.page page = .moving f g c pm (decide (kind = .join))) ∧
          (r.cls = .lane → (s.page page).mapped = true → t.page page = s.page page)) ∧
      (∀ p r, s.patrol.pass = some p → s.region p.region = some r → r.cls = .lane →
        (∀ page ∈ r.pages, (s.page page).mapped = true) → t.patrol = s.patrol) ∧
      t.patrol = (List.range 16).foldl (s.settledAt t) s.patrol ∧
      (∀ p r, s.patrol.pass = some p → s.region p.region = some r →
        r.cls = .vital ∨ (∃ page ∈ r.pages, (s.page page).mapped = false) →
        t.patrol.pass = none ∧ (0 < s.config.pace → ∀ id, t.eligible id = false) ∨
          ∃ id, t.patrol = ⟨some id, some ⟨id, 0, 0, false⟩⟩ ∧ t.eligible id = true) ∧
      (kind = .join → t.lane = { s.lane with mode := some .joining, confirmed := false, deadline := none } ∧
        t.join = some ⟨.waiting, 0, false, false, none, none, [], Vector.replicate 120 none, false⟩ ∧ t.serve = none ∧
        t.opening = none ∧ t.port = s.port.push ⟨.reply, v.kind, v.tag, .ok, field1 1 ++ field1 n⟩) ∧
      (kind = .cold → t.lane = s.lane ∧ t.join = s.join ∧ t.serve = s.serve ∧ t.port = s.port ∧
        t.opening = some ⟨.cold, .filling ((s.vitalPages.filter fun p => (s.page p).mapped).map fun p => (p, 0)), n⟩) ∧
      t = { s with
        mem := t.mem
        regions := t.regions
        pages := t.pages
        frames := t.frames
        patrol := t.patrol
        locks := t.locks
        vote := t.vote
        peerU := t.peerU
        peerV := t.peerV
        lane := t.lane
        join := t.join
        serve := t.serve
        opening := t.opening
        port := t.port }

/-- The mapping goes through the defined regions in id order and each region's pages in ascending order. Of one page it maps,
it takes the lowest-numbered FREE frame, makes it IN_USE for the page with its count kept, and leaves all its words 0, 0,
CLEAN; a mapped page it leaves as it is (R17, R28, R30, R31). -/
def Obligations.MappingAllocatesLowestFree : Prop :=
  (∀ (s : State) (kind : OpenKind), s.mapAll kind =
    (((List.range 16).filterMap fun id => s.region id).flatMap fun r => r.pages.map fun page => (r.cls, page)).foldl
      (fun u y => u.mapPage kind y.1 y.2) s) ∧
  (∀ (s : State) (kind : OpenKind) (cls : RegionClass) (page : Nat), (s.page page).mapped = true →
    s.mapPage kind cls page = s) ∧
  (∀ (s : State) (k : Nat), s.lowestFree = some k →
    k < 128 ∧ (s.frame k).state = .free ∧ ∀ j, j < k → (s.frame j).state ≠ .free) ∧
  ∀ (s : State) (kind : OpenKind) (cls : RegionClass) (page k : Nat), page < 120 → s.page page = .unmapped →
    s.lowestFree = some k → s.mem.wf →
    let t := s.mapPage kind cls page
    t.page page = (if kind = .join ∧ cls = .vital then .restoring k else .active k) ∧
      (∀ q, q ≠ page → t.page q = s.page q) ∧
      t.frame k = { s.frame k with state := .inUse, page := some page } ∧ (∀ j, j ≠ k → t.frame j = s.frame j) ∧
      (∀ a, t.mem.get a = if k * 256 ≤ a ∧ a < k * 256 + 256 then ⟨0, .clean 0⟩ else s.mem.get a) ∧
      t = { s with mem := t.mem, pages := t.pages, frames := t.frames }

/-- OPEN COLD fills the next word of a page with 0, in ascending offset, and completes in SERVICE, unconfirmed, with the
deadline started and the reply sent (R17, R118, R122, R133; the order of the pages is the command's, log 14). -/
def Obligations.OpenColdFillsAndCompletes : Prop :=
  (∀ (s : State) (kind : OpenKind) (n page offset : Nat) (left : List (Nat × Nat)),
    s.opening = some ⟨kind, .filling left, n⟩ → left.find? (fun e => e.1 == page) = some (page, offset) →
    exec (.openColdZeroFillWrite page) s = .next
      { s.writeWord page offset 0 with
        opening := some ⟨kind, .filling ((left.map fun e => if e.1 = page then (e.1, e.2 + 1) else e).filter
          fun e => decide (e.2 < 256)), n⟩ }) ∧
  ∀ (s : State) (kind : OpenKind) (n : Nat) (v : InService), s.opening = some ⟨kind, .filling [], n⟩ →
    s.port.service = some v →
    exec .openColdCompletion s = .next
      { s with
        lane := ⟨some .service, false, s.lane.stopCause, some (s.time + s.config.deadline)⟩
        serve := none
        join := none
        opening := none
        port := s.port.push ⟨.reply, v.kind, v.tag, .ok, field1 2 ++ field1 n⟩ }

/-! ### The image -/

/-- The page checks of a READ or WRITE, in order, made at the pages that hold an address of the run, ascending; the request
they refuse touches no word, and the one they pass is under way with all its words left (R182, R187). -/
def Obligations.ReadWriteChecked : Prop :=
  (∀ address count : Nat, 1 ≤ count → count ≤ 64 → (runPages address count).Pairwise (· < ·) ∧
    ∀ page, page ∈ runPages address count ↔ ∃ a, address ≤ a ∧ a < address + count ∧ a / 256 = page) ∧
  (∀ (s : State) (reading : Bool) (page : Nat), s.pageRefusal reading page =
    if (s.page page).mapped = false then some .notMapped
    else if s.isVital page = true ∧ s.inService = false then some .wrongMode
    else if (s.page page).isRestoring = true then some .wrongMode
    else if reading = true ∧ (s.page page).isPoisoned = true then some .unreadable
    else none) ∧
  (∀ (s : State) (tag address count : Nat), s.given 6 tag (.read tag address count) →
    let c := Instr.read tag address count
    let refusal := (runPages address count).findSome? (s.pageRefusal true)
    (count = 0 ∨ 64 < count ∨ 30720 < address + count → exec c s = .next (s.answered 6 tag .badArgument [])) ∧
    (1 ≤ count → count ≤ 64 → address + count ≤ 30720 → ∀ o, refusal = some o →
      exec c s = .next (s.answered 6 tag o (if o = .unreadable then [0] else []))) ∧
    (1 ≤ count → count ≤ 64 → address + count ≤ 30720 → refusal = none →
      exec c s = .next { s with port := s.port.inHand 6 tag, run := some (.reading address count []) })) ∧
  ∀ (s : State) (tag address count : Nat) (words : List Word), s.given 7 tag (.write tag address count words) →
    words.length = count →
    let c := Instr.write tag address count words
    let refusal := (runPages address count).findSome? (s.pageRefusal false)
    (count = 0 ∨ 30720 < address + count → count ≤ 64 → exec c s = .next (s.answered 7 tag .badArgument [])) ∧
    (1 ≤ count → count ≤ 64 → address + count ≤ 30720 → ∀ o, refusal = some o →
      exec c s = .next (s.answered 7 tag o (if o = .wrongMode then [0] else []))) ∧
    (1 ≤ count → count ≤ 64 → address + count ≤ 30720 → refusal = none →
      exec c s = .next { s with port := s.port.inHand 7 tag, run := some (.writing address words 0) })

/-- A correcting read delivers the stored value of a CLEAN word and does nothing; of a SINGLE word it delivers the stored
value, scrubs the word, counts against the frame and reports to the map unit, which queues the frame under R32; a DOUBLE
word delivers nothing, and STORE is raised and the lane stopped or the poison list acted on by the class. A read by page
and offset is made at the frame of the page, in a MOVING page at the new frame below the cursor and at the old one from the
cursor on (R7, R8, R9, R10, R14, R20, R32, R36). -/
def Obligations.CorrectingReadByCheckState : Prop :=
  (∀ (s : State) (page offset : Nat) (source : StoreSource),
    (∀ f, s.page page = .active f ∨ s.page page = .restoring f ∨ s.page page = .poisoned f →
      s.readWord page offset source = s.readCell f page offset source) ∧
    ∀ f g c pm rm, s.page page = .moving f g c pm rm →
      (offset < c → s.readWord page offset source = s.readCell g page offset source) ∧
      (c ≤ offset → s.readWord page offset source = s.readCell f page offset source)) ∧
  ∀ (s : State) (frame page offset : Nat) (source : StoreSource), frame < 128 → offset < 256 → s.mem.wf →
    (∀ v, (s.cell frame offset).content = .clean v → s.readCell frame page offset source = (s, some v)) ∧
    (∀ v, (s.cell frame offset).content = .single v →
      ∃ t, s.readCell frame page offset source = (t, some v) ∧
        t.cell frame offset = ⟨(s.cell frame offset).written, .clean v⟩ ∧
        (∀ a, a ≠ wordKey frame offset → t.mem.get a = s.mem.get a) ∧
        t.frame frame = { s.frame frame with count := if (s.frame frame).count < 255 then (s.frame frame).count + 1 else (s.frame frame).count } ∧
        (∀ k, k ≠ frame → t.frame k = s.frame k) ∧
        t.moveQueue = (if s.config.retire ≤ (t.frame frame).count ∧
            (∃ p, (s.frame frame).page = some p ∧ s.page p = .active frame) ∧ frame ∉ s.moveQueue ∧
            s.moveQueue.length < 8 then s.moveQueue ++ [frame] else s.moveQueue) ∧
        t = { s with mem := t.mem, frames := t.frames, moveQueue := t.moveQueue }) ∧
    (∀ id r, (s.cell frame offset).content = .double → s.regionOf page = some (id, r) →
      let raised := s.raise (.store (some (page * 256 + offset)) id r.cls source)
      (r.cls = .vital → s.readCell frame page offset source = (raised.stopRequest .store id, none)) ∧
      (r.cls = .lane → ∃ t, s.readCell frame page offset source = (t, none) ∧
        ((∃ e ∈ s.poison, e.address = page * 256 + offset) → t = raised) ∧
        ((∀ e ∈ s.poison, e.address ≠ page * 256 + offset) → s.poison.length < 32 →
          t = { raised with poison := s.poison ++ [⟨page * 256 + offset, source, s.vote.lastClosed⟩] }) ∧
        ((∀ e ∈ s.poison, e.address ≠ page * 256 + offset) → 32 ≤ s.poison.length →
          t = raised.setPage page (s.page page).markPoisoned)))

/-- One word of a READ: a delivered word is added, and the last one ends the READ with every word; a word that delivers
nothing ends it UNREADABLE with the words before it (R11, R183, R187). -/
def Obligations.HostReadWordGoesOn : Prop :=
  ∀ (s s1 : State) (next left : Nat) (delivered : List Word) (v : InService), s.run = some (.reading next left delivered) →
    s1.port.service = some v →
    (∀ w, s.readWord (next / 256) (next % 256) .read = (s1, some w) → 2 ≤ left →
      exec .hostReadWord s = .next { s1 with run := some (.reading (next + 1) (left - 1) (delivered ++ [w])) }) ∧
    (∀ w, s.readWord (next / 256) (next % 256) .read = (s1, some w) → left ≤ 1 →
      exec .hostReadWord s = .next
        { s1 with
          run := none
          port := s1.port.push ⟨.reply, v.kind, v.tag, .ok, wordsPayload (delivered ++ [w])⟩ }) ∧
    (s.readWord (next / 256) (next % 256) .read = (s1, none) →
      exec .hostReadWord s = .next
        { s1 with run := none, port := s1.port.push ⟨.reply, v.kind, v.tag, .unreadable, wordsPayload delivered⟩ })

/-- A write of a word of a mapped page sets it and its copy below a move cursor to the value, CLEAN, adds its term to the
live digest of its region, adjusts a pass that has gone by it, and changes nothing else (R5, R36, R46, R62). -/
def Obligations.WriteSetsWordAndDigest : Prop :=
  ∀ (s : State) (page offset frame id : Nat) (v : Word) (r : Region), offset < 256 → s.mem.wf →
    (s.page page).frameAt offset = some frame → s.regionOf page = some (id, r) →
    let i := (page - r.first) * 256 + offset
    let term := (Fin.ofNat 65537 v.toNat - Fin.ofNat 65537 (s.cell frame offset).written.toNat : Digest) * weight r.seed i
    let t := s.writeWord page offset v
    t.cell frame offset = ⟨v, .clean v⟩ ∧
      (∀ old, (s.page page).alsoWritten offset = some old → t.cell old offset = ⟨v, .clean v⟩) ∧
      (∀ a, a ≠ wordKey frame offset → (∀ old, (s.page page).alsoWritten offset = some old → a ≠ wordKey old offset) →
        t.mem.get a = s.mem.get a) ∧
      t.region id = some { r with live := r.live + term } ∧ (∀ j, j ≠ id → t.region j = s.region j) ∧
      (∀ p, s.patrol.pass = some p → p.region = id → i < p.cursor →
        t.patrol = { s.patrol with pass := some { p with acc := p.acc + term } }) ∧
      ((∀ p, s.patrol.pass = some p → p.region = id → p.cursor ≤ i) → t.patrol = s.patrol) ∧
      t = { s with mem := t.mem, regions := t.regions, patrol := t.patrol }

/-- One word of a WRITE: before a VITAL word the mode is checked again, and the WRITE ends WRONG-MODE with the words
written; else the word is written as a host write, and the last one ends the WRITE with its count. A host write of a LANE
word writes it and removes its poison entry; of a VITAL word it also captures the page first where a before-image is due,
and marks the page for the serve. A capture that finds a DOUBLE word fills no slot, and the write is made all the same. The
reads of a capture, and those of a send step, are correcting reads in ascending offset (R5, R13, R137, R138, R139, R141, R183);
that a DOUBLE word ends them there is the model's choice (log 18, DESIGN CHOICE). -/
def Obligations.HostWriteWordGoesOn : Prop :=
  (∀ (v : Serve) (page : Nat), v.captures page = true ↔
    (v.pendingCycle ≠ none ∨ v.phase = .final) ∧ page ∈ v.finalSet ∧ page ∉ v.fullySent ∧ ∀ x ∈ v.slots, x.page ≠ page) ∧
  (∀ (v : Serve) (page : Nat), ∃ dirty, v.marked page = { v with dirty := dirty } ∧
    (v.phase = .final ∨ v.pendingCycle ≠ none ∧ page ∈ v.finalSet → dirty = v.dirty) ∧
    (v.phase = .bulk → v.pendingCycle = none ∨ page ∉ v.finalSet → ∀ q, q ∈ dirty ↔ q = page ∨ q ∈ v.dirty)) ∧
  (∀ (s : State) (page offset n : Nat) (source : StoreSource), s.readRun page source offset 0 = (s, some []) ∧
    (∀ s1, s.readWord page offset source = (s1, none) → s.readRun page source offset (n + 1) = (s1, none)) ∧
    ∀ s1 w, s.readWord page offset source = (s1, some w) →
      (∀ s2 ws, s1.readRun page source (offset + 1) n = (s2, some ws) →
        s.readRun page source offset (n + 1) = (s2, some (w :: ws))) ∧
      ∀ s2, s1.readRun page source (offset + 1) n = (s2, none) → s.readRun page source offset (n + 1) = (s2, none)) ∧
  (∀ (s : State) (next done : Nat) (w : Word) (rest : List Word) (v : InService),
    s.run = some (.writing next (w :: rest) done) → s.port.service = some v →
    let t := s.hostWrite (next / 256) (next % 256) w
    (s.isVital (next / 256) = true → s.inService = false → exec .hostWriteWord s = .next
      { s with run := none, port := s.port.push ⟨.reply, v.kind, v.tag, .wrongMode, field1 done⟩ }) ∧
    (s.isVital (next / 256) = false ∨ s.inService = true → rest ≠ [] →
      exec .hostWriteWord s = .next { t with run := some (.writing (next + 1) rest (done + 1)) }) ∧
    (s.isVital (next / 256) = false ∨ s.inService = true → rest = [] → exec .hostWriteWord s = .next
      { t with run := none, port := s.port.push ⟨.reply, v.kind, v.tag, .ok, field1 (done + 1)⟩ })) ∧
  ∀ (s : State) (page offset : Nat) (w : Word), offset < 256 →
    (s.isVital page = false → s.hostWrite page offset w =
      { s.writeWord page offset w with poison := s.poison.filter fun e => e.address != page * 256 + offset }) ∧
    (s.isVital page = true → s.serve = none → s.hostWrite page offset w =
      { s.writeWord page offset w with poison := s.poison.filter fun e => e.address != page * 256 + offset }) ∧
    (∀ x, s.isVital page = true → s.serve = some x → x.captures page = false → s.hostWrite page offset w =
      { s.writeWord page offset w with
        poison := s.poison.filter fun e => e.address != page * 256 + offset
        serve := some (x.marked page) }) ∧
    (∀ x s1 words, s.isVital page = true → s.serve = some x → x.captures page = true →
      s.readRun page .capture 0 256 = (s1, some words) → s.hostWrite page offset w =
      { s1.writeWord page offset w with
        poison := s1.poison.filter fun e => e.address != page * 256 + offset
        serve := s1.serve.map fun y => ({ y with
          slots := y.slots ++ [⟨page, words⟩]
          inSend := y.inSend.map fun z => if z.page = page then { z with fromSlot := true } else z } : Serve).marked page }) ∧
    (∀ x s1, s.isVital page = true → s.serve = some x → x.captures page = true →
      s.readRun page .capture 0 256 = (s1, none) → s.hostWrite page offset w =
      { s1.writeWord page offset w with
        poison := s1.poison.filter fun e => e.address != page * 256 + offset
        serve := s1.serve.map fun y => y.marked page })

/-- FILL of a mapped LANE page gives every word of the page the value, CLEAN, takes its poison entries off the list,
releases it from POISONED, adds the term of each word to the live digest of its region and leaves every other region, and starts
a pass on its region afresh and leaves any other, in any mode; it is refused for a page out of range,
UNMAPPED or VITAL (R5, R13, R15, R16, R46, R70). That a page both UNMAPPED and VITAL is answered NOT-MAPPED is the model's choice (log
37, DESIGN CHOICE). -/
def Obligations.FillWritesWholePage : Prop :=
  ∀ (s : State) (tag page : Nat) (value : Word), s.given 8 tag (.fill tag page value) →
    (119 < page → exec (.fill tag page value) s = .next (s.answered 8 tag .badArgument [])) ∧
    (page ≤ 119 → (s.page page).mapped = false → exec (.fill tag page value) s = .next (s.answered 8 tag .notMapped [])) ∧
    (page ≤ 119 → (s.page page).mapped = true → s.isVital page = true →
      exec (.fill tag page value) s = .next (s.answered 8 tag .badArgument [])) ∧
    (page ≤ 119 → (s.page page).mapped = true → s.isVital page = false → s.mem.wf →
      ∃ t, exec (.fill tag page value) s = .next t ∧
        (∀ offset frame, offset < 256 → (s.page page).frameAt offset = some frame →
          t.cell frame offset = ⟨value, .clean value⟩) ∧
        (∀ a, (∀ offset frame, offset < 256 → (s.page page).frameAt offset = some frame → a ≠ wordKey frame offset) →
          (∀ offset old, offset < 256 → (s.page page).alsoWritten offset = some old → a ≠ wordKey old offset) →
          t.mem.get a = s.mem.get a) ∧
        t.poison = s.poison.filter (fun e => e.address / 256 != page) ∧ t.page page = (s.page page).releasePoisoned ∧
        (∀ q, q ≠ page → t.page q = s.page q) ∧
        (∀ id r p, s.regionOf page = some (id, r) → s.patrol.pass = some p → p.region = id →
          t.patrol = { s.patrol with pass := some ⟨id, 0, 0, false⟩ }) ∧
        ((∀ id r p, s.regionOf page = some (id, r) → s.patrol.pass = some p → p.region ≠ id) → t.patrol = s.patrol) ∧
        (∀ id r, s.regionOf page = some (id, r) →
          let term := fun offset => match (s.page page).frameAt offset with
            | some frame => (Fin.ofNat 65537 value.toNat - Fin.ofNat 65537 (s.cell frame offset).written.toNat : Digest) *
                weight r.seed ((page - r.first) * 256 + offset)
            | none => 0
          t.region id = some { r with live := (List.range 256).foldl (fun sum offset => sum + term offset) r.live } ∧
            ∀ j, j ≠ id → t.region j = s.region j) ∧
        (s.regionOf page = none → t.regions = s.regions) ∧
        t = { s with
          mem := t.mem
          poison := t.poison
          pages := t.pages
          regions := t.regions
          patrol := t.patrol
          port := s.port.answered 8 tag .ok [] })

/-- ADOPT of a mapped LANE region leaves every stored value and check state as it is, makes every stored value the written
value, in both frames below a move cursor, leaves the written value of a DOUBLE word and of every other word, makes the
region CLEAN with its digest computed in full and leaves every other region, starts a pass on it afresh and leaves any other,
and answers with the digest and the counts of
words changed and words DOUBLE, in any mode; it is refused for a region that is not a defined LANE region or has an UNMAPPED
page. A warm restart that waited acts at its end, in place of the reply (R50, R51, R52, R70, R185, R187; log 19). -/
def Obligations.AdoptRecomputesDigest : Prop :=
  (∀ (s u : State) (tag id : Nat), s.given 9 tag (.adopt tag id) → s.restartDue = true →
    exec (.adopt tag id) { s with restartDue := false } = .next u →
    ∃ t, exec (.adopt tag id) s = .next t ∧ u.WarmRestarted t ∧ t.port = (s.port.inHand 9 tag).restarted) ∧
  ∀ (s : State) (tag id : Nat), s.given 9 tag (.adopt tag id) → s.restartDue = false →
    ((∀ r, s.region id = some r → r.cls = .vital) → exec (.adopt tag id) s = .next (s.answered 9 tag .badArgument [])) ∧
    (∀ r, s.region id = some r → r.cls = .lane →
      let cells := r.pages.flatMap fun page => (List.range 256).filterMap fun offset =>
        ((s.page page).frameAt offset).map fun frame => s.cell frame offset
      let changed := cells.countP fun c =>
        match c.content with
        | .clean v => c.written != v
        | .single v => c.written != v
        | .double => false
      let double := cells.countP fun c => c.content == .double
      ((∃ page ∈ r.pages, (s.page page).mapped = false) →
        exec (.adopt tag id) s = .next (s.answered 9 tag .notMapped [])) ∧
      ((∀ page ∈ r.pages, (s.page page).mapped = true) → s.mem.wf → s.PoolLaw →
        ∃ t, exec (.adopt tag id) s = .next t ∧ (∀ a, (t.mem.get a).content = (s.mem.get a).content) ∧
          (∀ page ∈ r.pages, ∀ offset, offset < 256 → ∀ frame, (s.page page).frameAt offset = some frame →
            ∀ v, (s.cell frame offset).content = .clean v ∨ (s.cell frame offset).content = .single v →
              (t.cell frame offset).written = v ∧
                ∀ old, (s.page page).alsoWritten offset = some old → (t.cell old offset).written = v) ∧
          (∀ page ∈ r.pages, ∀ offset, offset < 256 → ∀ frame, (s.page page).frameAt offset = some frame →
            (s.cell frame offset).content = .double → t.cell frame offset = s.cell frame offset ∧
              ∀ old, (s.page page).alsoWritten offset = some old → t.cell old offset = s.cell old offset) ∧
          (∀ a, (∀ page ∈ r.pages, ∀ offset, offset < 256 → ∀ frame, (s.page page).frameAt offset = some frame ∨
            (s.page page).alsoWritten offset = some frame → a ≠ wordKey frame offset) → t.mem.get a = s.mem.get a) ∧
          t.region id = some { r with live := t.regionDigest r, state := .clean } ∧ (∀ j, j ≠ id → t.region j = s.region j) ∧
          (∀ p, s.patrol.pass = some p → p.region = id → t.patrol = { s.patrol with pass := some ⟨id, 0, 0, false⟩ }) ∧
          ((∀ p, s.patrol.pass = some p → p.region ≠ id) → t.patrol = s.patrol) ∧
          t = { s with
            mem := t.mem
            regions := t.regions
            patrol := t.patrol
            port := s.port.answered 9 tag .ok (field3 (t.regionDigest r).val ++ field2 changed ++ field2 double) }))

/-! ### The close and the lock table -/

/-- CYCLE-CLOSE outside SERVICE, at the cycle limit or out of order is refused and changes nothing; else an open vote is
decided first, and the lock table begins its advance, or the close is abandoned where that verdict stopped the lane (R81,
R94, R95). -/
def Obligations.CycleCloseChecked : Prop :=
  ∀ (s : State) (tag cycle : Nat), s.given 10 tag (.cycleClose tag cycle) →
    let c := Instr.cycleClose tag cycle
    let advance := some (Advance.mk cycle (gatesToRead s.locks.toList) [])
    (s.inService = false → exec c s = .next (s.answered 10 tag .wrongMode [])) ∧
    (s.inService = true → 4294967295 ≤ s.vote.lastClosed → exec c s = .next (s.answered 10 tag .cycleLimit [])) ∧
    (s.inService = true → s.vote.lastClosed < 4294967295 → cycle ≠ s.vote.lastClosed + 1 →
      exec c s = .next (s.answered 10 tag .outOfOrder (field4 s.vote.lastClosed))) ∧
    (s.inService = true → s.vote.lastClosed < 4294967295 → cycle = s.vote.lastClosed + 1 →
      (s.vote.state ≠ .opened → exec c s = .next { s with port := s.port.inHand 10 tag, advance := advance }) ∧
      (s.vote.state = .opened → s.decideVote.inService = true →
        exec c s = .next { s.decideVote with port := s.port.inHand 10 tag, advance := advance }) ∧
      (s.vote.state = .opened → s.decideVote.inService = false →
        exec c s = .next { s.decideVote with port := s.port.answered 10 tag .stopped [] }))

/-- An advance reads the gate of every record RUNNING in PAUSE or REARM, each once; a gate read keeps the value delivered,
and one that finds its word DOUBLE abandons the close, with STOPPED as its reply, or with the warm restart that waited
(R81, R82, R83, R96; log 19). -/
def Obligations.AdvanceReadsGates : Prop :=
  (∀ rs : List LockRecord, (gatesToRead rs).Nodup ∧ (gatesToRead rs).length ≤ rs.length ∧
    ∀ g, g ∈ gatesToRead rs ↔ ∃ r ∈ rs, r.timer.state = .running ∧
      (r.timer.mode = some .pause ∨ r.timer.mode = some .rearm) ∧ r.timer.gate = some g) ∧
  ∀ (s s1 : State) (cycle g : Nat) (rest : List Nat) (values : List (Nat × Word)) (v : InService),
    s.advance = some ⟨cycle, g :: rest, values⟩ → s.port.service = some v →
    (∀ w, s.readWord (g / 256) (g % 256) .gate = (s1, some w) →
      exec .gateRead s = .next { s1 with advance := some ⟨cycle, rest, values ++ [(g, w)]⟩ }) ∧
    (s.readWord (g / 256) (g % 256) .gate = (s1, none) → s.restartDue = false →
      exec .gateRead s = .next
        { s1 with advance := none, port := s.port.push ⟨.reply, v.kind, v.tag, .stopped, []⟩ }) ∧
    (s.readWord (g / 256) (g % 256) .gate = (s1, none) → s.restartDue = true →
      ∃ t, exec .gateRead s = .next t ∧ s1.WarmRestarted t ∧ t.port = s1.port.restarted)

/-- The second part of the advance steps every record, with its raises, and a close of a lane still in SERVICE then completes:
own list, last closed cycle, promotions, a DIGEST on each link, the hand-on to the transfer engine, the window, the early
decision where its condition holds, and the reply OK with the list. Out of SERVICE it is abandoned with STOPPED, and a warm
restart that waited acts in place of the reply (R81, R96, R97, R99, R105; log 19). The list has the live digest of each VITAL
region in ascending id, and then entry 16, the lock digest: the digest formula at seed 257 over four words of each lock record
in index order (R53, R54, R97, R151). -/
def Obligations.CloseCompletes : Prop :=
  (∀ s : State, ∃ front, s.closingList = front ++ [(16, s.lockDigest)] ∧ (front.map Prod.fst).Pairwise (· < ·) ∧
    ∀ id d, (id, d) ∈ front ↔ ∃ r, s.region id = some r ∧ r.cls = .vital ∧ d = r.live) ∧
  (∀ s : State, s.lockDigest = digestOf 257 ((List.range 48).flatMap fun k =>
    let t := (s.lock k).timer
    [match t.state with
      | .idle => 0
      | .running => 1
      | .expired => 2, (t.remaining + 4096).toNat, t.preset, t.pending.getD 0])) ∧
  ∀ (s : State) (n : Nat) (values : List (Nat × Word)) (v : InService), s.advance = some ⟨n, [], values⟩ →
    s.port.service = some v →
    let s1 : State := { s.stepLocks values with advance := none }
    let list := s1.closingList
    let promoted := fun (p : PeerRecord) => match p.early with
      | some e => if e.cycle = n
          then { p with
            held := some e.list
            miss := 0
            state := if p.state = .divergent then .divergent else .present
            early := none }
          else p
      | none => p
    let pu := promoted s.peerU
    let pv := promoted s.peerV
    let digest : LinkFrame := ⟨s.config.lane, .digest n s.lane.confirmed list⟩
    let told := ({ s1 with vote := { s.vote with lastClosed := n, ownList := some list } } : State).closeCompleted n
    let opened : State := { s1 with
      vote := ⟨n, .opened, some list, some (s.time + s.config.window), s.vote.lastVerdict⟩
      peerU := pu
      peerV := pv
      linkU := s.linkU.putControl s.time digest
      linkV := s.linkV.putControl s.time digest
      serve := told.serve }
    let early := (pu.state = .present ∨ pv.state = .present) ∧ (pu.state = .present → pu.held.isSome) ∧
      (pv.state = .present → pv.held.isSome)
    (s.restartDue = true → ∃ t, exec .lockAdvance s = .next t ∧ s.WarmRestarted t ∧ t.port = s.port.restarted) ∧
    (s.restartDue = false → s.inService = false → exec .lockAdvance s = .next
      { s1 with port := s.port.push ⟨.reply, v.kind, v.tag, .stopped, []⟩ }) ∧
    (s.restartDue = false → s.inService = true → ∃ t, exec .lockAdvance s = .next t ∧ t.vote.lastClosed = n ∧
      t.vote.ownList = some list ∧ t.locks = s1.locks ∧
      t.port = s.port.push ⟨.reply, v.kind, v.tag, .ok, field4 n ++ field1 list.length ++ listBytes list⟩ ∧
      (¬ early → t.vote = ⟨n, .opened, some list, some (s.time + s.config.window), s.vote.lastVerdict⟩ ∧ t.peerU = pu ∧
        t.peerV = pv ∧ t.lane = s.lane ∧ ∀ port, t.link port =
          (s.link port).putControl s.time ⟨s.config.lane, .digest n s.lane.confirmed list⟩) ∧
      (early → t.vote.state = .decided ∧ t.vote.window = none) ∧
      t = { if early then opened.decideVote else opened with port := t.port } ∧
      t = { s with
        advance := none
        locks := t.locks
        vote := t.vote
        peerU := t.peerU
        peerV := t.peerV
        lane := t.lane
        health := t.health
        serve := t.serve
        join := t.join
        linkU := t.linkU
        linkV := t.linkV
        attention := t.attention
        port := t.port })

/-- The step of one record at a close, by its state, mode and gate: it counts, holds, reloads, expires or sinks to the
overrange. The second part of the advance makes it at each of the 48 records in index order, with the LOCK raises, and
changes nothing else (R81, R84, R85, R86, R87). -/
def Obligations.LockStepTable : Prop :=
  (∀ (t : LockTimer) (values : List (Nat × Word)),
    let zero := gateZero values t.gate = true
    let counts := t.mode = some .plain ∨ (t.mode = some .pause ∨ t.mode = some .rearm) ∧ ¬ zero
    (t.state = .idle → t.step values = (t, none)) ∧
    (t.state = .running → counts → 2 ≤ t.remaining → t.step values = ({ t with remaining := t.remaining - 1 }, none)) ∧
    (t.state = .running → counts → t.remaining = 1 →
      t.step values = ({ t with state := .expired, remaining := 0, pending := none }, some .expired)) ∧
    (t.state = .running → t.mode = some .pause → zero → t.step values = (t, none)) ∧
    (t.state = .running → t.mode = some .rearm → zero →
      (t.pending = none → t.step values = ({ t with remaining := t.preset }, none)) ∧
      ∀ p, t.pending = some p → t.step values = ({ t with preset := p, pending := none, remaining := p }, none)) ∧
    (t.state = .expired → -4095 < t.remaining → t.step values = ({ t with remaining := t.remaining - 1 }, none)) ∧
    (t.state = .expired → t.remaining = -4095 → t.overrange = false →
      t.step values = ({ t with overrange := true }, some .overrange)) ∧
    (t.state = .expired → t.remaining = -4095 → t.overrange = true → t.step values = (t, none))) ∧
  (∀ (values : List (Nat × Word)) (g : Nat) (w : Word), values.find? (fun e => e.1 == g) = some (g, w) →
    (gateZero values (some g) = true ↔ w = 0)) ∧
  ∀ (s : State) (values : List (Nat × Word)),
    let t := s.stepLocks values
    (∀ k, k < 48 → t.lock k = { s.lock k with timer := ((s.lock k).timer.step values).1 }) ∧
      t.attention = (List.range 48).foldl (fun a k =>
        match ((s.lock k).timer.step values).2 with
        | some e => a.raise (.lock k e)
        | none => a) s.attention ∧
      t = { s with locks := t.locks, attention := t.attention }

/-- LOCK-ARM in SERVICE with good arguments starts an IDLE or EXPIRED record, or gives a RUNNING REARM record of the same
gate a pending preset; it is refused for bad arguments, on any other RUNNING record, and in every other mode (R73, R74,
R75, R76, R187). -/
def Obligations.LockArmActs : Prop :=
  ∀ (s : State) (tag index modeCode : Nat) (gate : Option Nat) (preset : Nat),
    let c := Instr.lockArm tag index modeCode gate preset
    let applied := max 1 (min 60000 preset)
    let fits := index ≤ 47 ∧ (modeCode = 1 ∧ gate = none ∨
      (modeCode = 2 ∨ modeCode = 3) ∧ ∃ g, gate = some g ∧ g < 30720 ∧ s.isVital (g / 256) = true)
    let r := s.lock index
    let goesPending := r.timer.mode = some .rearm ∧ modeCode = 3 ∧ r.timer.gate = gate
    s.given 11 tag c →
    (s.inService = false → exec c s = .next (s.answered 11 tag .wrongMode [])) ∧
    (s.inService = true → ¬ fits → exec c s = .next (s.answered 11 tag .badArgument [])) ∧
    (s.inService = true → fits → r.timer.state ≠ .running → ∀ mode, modeCode = LockMode.code mode →
      exec c s = .next
        ((s.setLock index { r with timer := ⟨.running, some mode, gate, applied, none, applied, false⟩ }).answered 11 tag .ok
          (field1 index ++ field1 1 ++ field2 applied))) ∧
    (s.inService = true → fits → r.timer.state = .running → goesPending → exec c s = .next
      ((s.setLock index { r with timer := { r.timer with pending := some applied } }).answered 11 tag .ok
        (field1 index ++ field1 2 ++ field2 applied))) ∧
    (s.inService = true → fits → r.timer.state = .running → ¬ goesPending →
      exec c s = .next (s.answered 11 tag .wrongState []))

/-- LOCK-CANCEL in SERVICE makes a RUNNING or EXPIRED record IDLE with its count as the release value, and leaves an IDLE
one; LOCK-READ in SERVICE reports a run of records and collects their release fields. Both are refused in every other mode
and for bad arguments (R73, R77, R78, R79, R187). The release-overwritten byte of an ALREADY-IDLE reply, which R187 leaves
unsaid, is the record's own flag: the model's choice (log 20, DESIGN CHOICE). -/
def Obligations.LockCancelAndRead : Prop :=
  (∀ (s : State) (tag index : Nat), s.given 12 tag (.lockCancel tag index) →
    let c := Instr.lockCancel tag index
    let r := s.lock index
    let lost := r.overwritten || r.release.isSome
    (s.inService = false → exec c s = .next (s.answered 12 tag .wrongMode [])) ∧
    (s.inService = true → 47 < index → exec c s = .next (s.answered 12 tag .badArgument [])) ∧
    (s.inService = true → index ≤ 47 → r.timer.state = .idle → exec c s = .next (s.answered 12 tag .ok
      (field1 index ++ field1 4 ++ field1 0 ++ releaseBytes none ++ flagByte r.overwritten))) ∧
    (s.inService = true → index ≤ 47 → r.timer.state ≠ .idle → exec c s = .next
      ((s.setLock index ⟨⟨.idle, none, none, 0, none, 0, false⟩, some r.timer.remaining, lost⟩).answered 12 tag .ok
        (field1 index ++ field1 3 ++ field1 r.timer.state.code ++ releaseBytes (some r.timer.remaining) ++ flagByte lost)))) ∧
  ∀ (s : State) (tag first count : Nat), s.given 13 tag (.lockRead tag first count) →
    let c := Instr.lockRead tag first count
    (s.inService = false → exec c s = .next (s.answered 13 tag .wrongMode [])) ∧
    (s.inService = true → count = 0 ∨ 48 < first + count → exec c s = .next (s.answered 13 tag .badArgument [])) ∧
    (s.inService = true → 1 ≤ count → first + count ≤ 48 → ∃ t, exec c s = .next t ∧
      (∀ k, k < 48 → t.lock k =
        if first ≤ k ∧ k < first + count then { s.lock k with release := none, overwritten := false } else s.lock k) ∧
      t = { s with
        locks := t.locks
        port := s.port.answered 13 tag .ok
          (field1 count ++ (List.range count).flatMap fun k => (s.lock (first + k)).bytes (first + k)) })

/-! ### Attention -/

/-- A raise sets its class pending, counts, and keeps the latest detail, whatever the class's masked and in-service fields,
and judges ATTN again; no other class and no part of the order changes (R167). -/
def Obligations.RaiseRecords : Prop :=
  ∀ (a : Attention) (d : Detail),
    let k := d.cls.num
    let t := a.raise d
    t.cls k = ⟨true, (a.cls k).masked, (a.cls k).inService,
      if (a.cls k).count < 255 then (a.cls k).count + 1 else (a.cls k).count, some d⟩ ∧
    (∀ j, j ≠ k → t.cls j = a.cls j) ∧ t.rotating = a.rotating ∧ t.lowest = a.lowest ∧ t.attn = t.offered.isSome

/-- TAKE takes the class of highest rank among those pending, unmasked and above every class in service, answers with its
count and detail, and answers NONE where there is no such class. DONE finishes the class named, or the highest in service,
and in ROTATING makes it the lowest; it is answered NOT-IN-SERVICE where there is none to finish (R169, R170, R171). The
count 0 and the zero detail of a NONE reply, and the class named in a NOT-IN-SERVICE reply to DONE with a class, are the
model's choice of bytes left unsaid (log 20, DESIGN CHOICE). Class k ranks (k - c - 1) modulo 8 for the lowest class c, and a
TAKE considers a class that is pending, not masked and of a smaller rank than every class in service (R166, R168). -/
def Obligations.TakeAndDone : Prop :=
  (∀ (a : Attention) (k : Nat), a.lowest ≤ 7 → k ≤ 7 → (a.rank k : Int) = ((k : Int) - a.lowest - 1) % 8) ∧
  (∀ (a : Attention) (k : Nat), a.eligible k = true ↔ (a.cls k).pending = true ∧ (a.cls k).masked = false ∧
    ∀ j, j < 8 → (a.cls j).inService = true → a.rank k < a.rank j) ∧
  (∀ (s : State) (tag : Nat), s.given 14 tag (.take tag) → s.attention.lowest ≤ 7 →
    (∀ k, k < 8 → s.attention.eligible k = true →
      (∀ j, j < 8 → s.attention.eligible j = true → s.attention.rank k ≤ s.attention.rank j) →
      let r := s.attention.cls k
      ∃ a, exec (.take tag) s = .next { s with
          attention := a
          port := s.port.answered 14 tag .ok (field1 k ++ field1 r.count ++ detailBytes r.detail) } ∧
        a.cls k = { r with pending := false, inService := true, count := 0 } ∧
        (∀ j, j ≠ k → a.cls j = s.attention.cls j) ∧ a.rotating = s.attention.rotating ∧
        a.lowest = s.attention.lowest ∧ a.attn = a.offered.isSome) ∧
    ((∀ k, k < 8 → s.attention.eligible k = false) → exec (.take tag) s = .next
      (s.answered 14 tag .ok (field1 255 ++ field1 0 ++ detailBytes none)))) ∧
  (∀ (s : State) (tag k : Nat), s.given 15 tag (.doneClass tag k) →
    (7 < k → exec (.doneClass tag k) s = .next (s.answered 15 tag .badArgument [])) ∧
    (k ≤ 7 → (s.attention.cls k).inService = false →
      exec (.doneClass tag k) s = .next (s.answered 15 tag .notInService (field1 k))) ∧
    (k ≤ 7 → (s.attention.cls k).inService = true → exec (.doneClass tag k) s = .next
      { s with attention := s.attention.finish k, port := s.port.answered 15 tag .ok (field1 k) })) ∧
  (∀ (s : State) (tag : Nat), s.given 15 tag (.doneNoClass tag) → s.attention.lowest ≤ 7 →
    ((∀ k, k < 8 → (s.attention.cls k).inService = false) →
      exec (.doneNoClass tag) s = .next (s.answered 15 tag .notInService (field1 255))) ∧
    ∀ k, k < 8 → (s.attention.cls k).inService = true →
      (∀ j, j < 8 → (s.attention.cls j).inService = true → s.attention.rank k ≤ s.attention.rank j) →
      exec (.doneNoClass tag) s = .next
        { s with attention := s.attention.finish k, port := s.port.answered 15 tag .ok (field1 k) }) ∧
  ∀ (a : Attention) (k : Nat), k ≤ 7 →
    let t := a.finish k
    t.cls k = { a.cls k with inService := false } ∧ (∀ j, j ≠ k → t.cls j = a.cls j) ∧ t.rotating = a.rotating ∧
      t.lowest = (if a.rotating = true then k else a.lowest) ∧ t.attn = t.offered.isSome

/-- MASK replaces the masks of all eight classes; PRIORITY sets the priority mode and the lowest class by its three forms.
Each judges ATTN again and changes nothing else of the attention controller (R171, R172, R187). -/
def Obligations.MaskAndPriority : Prop :=
  (∀ (s : State) (tag : Nat) (set : Byte), s.given 16 tag (.mask tag set) →
    ∃ a, exec (.mask tag set) s = .next { s with attention := a, port := s.port.answered 16 tag .ok [set] } ∧
      (∀ k, k < 8 → a.cls k = { s.attention.cls k with masked := set.getLsbD k }) ∧
      a.rotating = s.attention.rotating ∧ a.lowest = s.attention.lowest ∧ a.attn = a.offered.isSome) ∧
  ∀ (s : State) (tag : Nat) (c : Instr) (rotating : Bool) (lowest : Nat), s.given 17 tag c →
    (c = .priorityFixed tag ∧ rotating = false ∧ lowest = 7 ∨
      c = .priorityRotating tag ∧ rotating = true ∧ lowest = s.attention.lowest ∨
      c = .prioritySetLowest tag lowest ∧ rotating = true ∧ lowest ≤ 7 →
      ∃ a, exec c s = .next { s with
          attention := a
          port := s.port.answered 17 tag .ok (field1 (if rotating then 2 else 1) ++ field1 lowest) } ∧
        a.classes = s.attention.classes ∧ a.rotating = rotating ∧ a.lowest = lowest ∧ a.attn = a.offered.isSome) ∧
    (c = .prioritySetLowest tag lowest → 7 < lowest → exec c s = .next (s.answered 17 tag .badArgument []))

/-! ### Paced work -/

/-- A patrol step reads the word at the cursor, adds its term or spoils the pass, and advances the cursor. The step that
takes it to the end of the region compares an unspoiled pass with the live digest, with PATROL raised and the lane stopped
or the region SUSPECT where they differ, and makes the next selection; with P = 0 there is no step and no selection (R57, R58,
R59, R60, R61, R64, R65, R66). A region is eligible by R57 alone: that a CLEAN VITAL region is so although its pages are
RESTORING, and that they are then read, is the model's choice against R26 (log 42, DESIGN CHOICE). -/
def Obligations.PatrolStepReads : Prop :=
  (∀ (s s1 : State) (p q : Pass) (r : Region) (value : Option Word), s.patrol.pass = some p →
    s.region p.region = some r → 0 < s.config.pace →
    s.readWord (r.first + p.cursor / 256) (p.cursor % 256) .patrol = (s1, value) →
    (match value with
      | some u => q = { p with
          acc := p.acc + Fin.ofNat 65537 (u.toNat + 1) * weight r.seed p.cursor
          cursor := p.cursor + 1 }
      | none => q = { p with spoiled := true, cursor := p.cursor + 1 }) →
    let last : State := { s1 with patrol := ⟨s.patrol.walk, some q⟩ }
    (p.cursor + 1 < r.words → exec .patrolStep s = .next last) ∧
    (r.words ≤ p.cursor + 1 → q.spoiled = true ∨ q.acc = r.live → exec .patrolStep s = .next last.selectPass) ∧
    (r.words ≤ p.cursor + 1 → q.spoiled = false → q.acc ≠ r.live →
      (r.cls = .vital → exec .patrolStep s = .next
        ((last.raise (.patrol p.region .silent)).stopRequest .silent p.region).selectPass) ∧
      (r.cls = .lane → exec .patrolStep s = .next
        ((last.raise (.patrol p.region .suspect)).setRegion p.region (some { r with state := .suspect })).selectPass))) ∧
  (∀ s : State, 0 < s.config.pace → s.selectPass =
    match (walkOrder s.patrol.walk).find? (fun id => s.eligible id) with
    | some id => { s with patrol := ⟨some id, some ⟨id, 0, 0, false⟩⟩ }
    | none => { s with patrol := ⟨s.patrol.walk, none⟩ }) ∧
  (∀ s : State, s.config.pace = 0 → exec .patrolStep s = .next s ∧
    s.selectPass = { s with patrol := ⟨s.patrol.walk, none⟩ }) ∧
  (∀ (s : State) (id : Nat), s.eligible id = true ↔ ∃ r, s.region id = some r ∧
    (∀ page ∈ r.pages, (s.page page).mapped = true) ∧ ¬ (r.cls = .vital ∧ r.state = .incomplete)) ∧
  walkOrder none = List.range 16 ∧ ∀ w, w < 16 → walkOrder (some w) = (List.range' (w + 1) (15 - w)) ++ List.range (w + 1)

/-- The idle engine takes the oldest entry of the move queue: it discards a frame that backs no ACTIVE page, marks the
frame WORN with RETIRE raised where no frame is FREE, and else allocates the lowest FREE frame and makes the page MOVING
onto it with cursor 0 and no marks (R17, R28, R34). -/
def Obligations.MoveTakeDecides : Prop :=
  ∀ (s : State) (frame : Nat) (rest : List Nat), s.moveQueue = frame :: rest → s.moving = none → 0 < s.config.pace →
    s.mapping = false →
    ((∀ page, (s.frame frame).page = some page → s.page page ≠ .active frame) →
      exec .moveTake s = .next { s with moveQueue := rest }) ∧
    (∀ page, (s.frame frame).page = some page → s.page page = .active frame → s.lowestFree = none → frame < 128 →
      ∃ t, exec .moveTake s = .next t ∧ t.frame frame = { s.frame frame with worn := true } ∧
        (∀ k, k ≠ frame → t.frame k = s.frame k) ∧
        t = { s with
          moveQueue := rest
          frames := t.frames
          attention := s.attention.raise (.retire frame page .sparesExhausted) }) ∧
    ∀ page g, (s.frame frame).page = some page → s.page page = .active frame → s.lowestFree = some g → s.mem.wf →
      ∃ t, exec .moveTake s = .next t ∧ t.page page = .moving frame g 0 false false ∧
        (∀ q, q ≠ page → t.page q = s.page q) ∧ t.frame g = { s.frame g with state := .inUse, page := some page } ∧
        (∀ k, k ≠ g → t.frame k = s.frame k) ∧
        (∀ a, t.mem.get a = if g * 256 ≤ a ∧ a < g * 256 + 256 then ⟨0, .clean 0⟩ else s.mem.get a) ∧
        t = { s with
          moveQueue := rest
          mem := t.mem
          pages := t.pages
          frames := t.frames
          moving := some page }

/-- A move step makes a correcting read of the word under the cursor, which scrubs and counts a SINGLE word in the old frame,
and raises STORE and stops the lane or acts on the poison list for a DOUBLE one; it copies the word to the new frame, a
DOUBLE word as DOUBLE, and advances the cursor; the last step settles the page on its new frame by its marks, retires the
old frame with RETIRE raised, and leaves the engine idle (R6, R7, R35, R37, R38). -/
def Obligations.MoveStepCopies : Prop :=
  ∀ (s : State) (page f g c : Nat) (pm rm : Bool), s.moving = some page → s.page page = .moving f g c pm rm →
    0 < s.config.pace → c < 256 → f < 128 → g < 128 → f ≠ g → (s.frame f).page = some page → s.mem.wf →
    let old := s.cell f c
    let scrubbed : Cell := ⟨old.written,
      match old.content with
      | .clean v => .clean v
      | .single v => .clean v
      | .double => .double⟩
    let read := (s.readCell f page c .move).1
    ∃ t, exec .moveStep s = .next t ∧ t.cell g c = scrubbed ∧ t.cell f c = scrubbed ∧
      (∀ a, a ≠ wordKey f c → a ≠ wordKey g c → t.mem.get a = s.mem.get a) ∧
      (∀ q, q ≠ page → t.page q = s.page q) ∧ t.moveQueue = s.moveQueue ∧ t.regions = s.regions ∧
      (∃ m, read.page page = .moving f g c m rm ∧ (old.content ≠ .double → m = pm) ∧
        (c < 255 → t.moving = some page ∧ t.page page = .moving f g (c + 1) m rm) ∧
        (c = 255 → t.moving = none ∧ t.page page = settledEntry g m rm)) ∧
      (old.content ≠ .double → read.attention = s.attention ∧ read.lane = s.lane ∧ read.poison = s.poison) ∧
      t = { read with
        mem := t.mem
        pages := t.pages
        frames := t.frames
        moving := t.moving
        attention := if c < 255 then read.attention else read.attention.raise (.retire f page .retired) } ∧
      (∀ k, k ≠ f → t.frame k = s.frame k) ∧
      t.frame f =
        let count := match old.content with
          | .single _ => if (s.frame f).count < 255 then (s.frame f).count + 1 else (s.frame f).count
          | .clean _ => (s.frame f).count
          | .double => (s.frame f).count
        if c < 255 then { s.frame f with count := count } else ⟨.retired, count, false, none⟩

/-! ### The vote -/

/-- The verdict by the participants and their consistency; a decision records it, counts the misses with LINK raised for each
peer that becomes ABSENT, sets the participants' states, drops the held digests and closes the vote. AGREED and
PEER-DIVERGENT, the second with VOTE raised, go on and are handed to the transfer engine, and any other verdict is a stop
request. The window's end decides the open vote (R105, R106, R108, R109, R110, R111, R121, R122, R130). That the peer at U is
counted before the peer at V is the model's choice (log 38, DESIGN CHOICE). That it carries the timebase to the window's instant is the model's choice
(log 1, DESIGN CHOICE), and that a JOINING peer with a held list takes part is its reading (log 28, DEDUCED). -/
def Obligations.WindowExpiryDecides : Prop :=
  (∀ (s : State) (w : Nat), s.vote.window = some w →
    exec .windowExpiry s = .next ({ s with time := max s.time w } : State).decideVote) ∧
  (∀ (own a b : DigestList) (l u v : Nat),
    (own = a → own = b → judgeLists l u v own (some a) (some b) = (.agreed, 3, none)) ∧
    (a = b → own ≠ a → judgeLists l u v own (some a) (some b) = (.outvoted, 3, some l)) ∧
    (own = a → own ≠ b → judgeLists l u v own (some a) (some b) = (.peerDivergent, 3, some v)) ∧
    (own = b → own ≠ a → judgeLists l u v own (some a) (some b) = (.peerDivergent, 3, some u)) ∧
    (own ≠ a → own ≠ b → a ≠ b → judgeLists l u v own (some a) (some b) = (.noMajority, 3, none)) ∧
    (own = a → judgeLists l u v own (some a) none = (.agreed, 2, none) ∧
      judgeLists l u v own none (some a) = (.agreed, 2, none)) ∧
    (own ≠ a → judgeLists l u v own (some a) none = (.noMajority, 2, none) ∧
      judgeLists l u v own none (some a) = (.noMajority, 2, none)) ∧
    judgeLists l u v own none none = (.alone, 1, none)) ∧
  ∀ (s : State) (own : DigestList) (verdict : Verdict) (n : Nat) (odd : Option Nat), s.vote.ownList = some own →
    s.lane.mode = some .service →
    judgeLists s.config.lane (s.peerLane .u) (s.peerLane .v) own s.peerU.held s.peerV.held = (verdict, n, odd) →
    let t := s.decideVote
    let lapsed := fun (p : PeerRecord) => (p.state = .present ∨ p.state = .divergent) ∧ p.held = none
    let misses := fun (p : PeerRecord) => if p.miss < 15 then p.miss + 1 else p.miss
    let lost := fun (p : PeerRecord) => lapsed p ∧ s.config.missLimit ≤ misses p
    let settled := fun (port : LinkPort) =>
      let p := s.peer port
      ({ p with
        held := none
        miss := if lapsed p then misses p else p.miss
        state := if lost p then .absent else if p.held = none then p.state else
          match verdict with
          | .agreed => .present
          | .outvoted => .present
          | .peerDivergent => if odd = some (s.peerLane port) then .divergent else .present
          | .noMajority => p.state
          | .alone => p.state } : PeerRecord)
    let toldU := if lost s.peerU then s.attention.raise (.link (s.peerLane .u) .absent) else s.attention
    let told := if lost s.peerV then toldU.raise (.link (s.peerLane .v) .absent) else toldU
    let voted : State := { s with
      vote := { s.vote with
        state := .decided
        window := none
        lastVerdict := some ⟨s.vote.lastClosed, verdict, n, odd⟩ }
      peerU := settled .u
      peerV := settled .v
      attention := told }
    let half := if n = 2 then 2 * s.config.halfPeriod else s.config.halfPeriod
    t = (match verdict with
      | .agreed => ({ voted with
          lane := ⟨some .service, true, s.lane.stopCause, some (s.time + s.config.deadline)⟩
          health := ⟨if s.lane.confirmed = true then s.health.wave else some ⟨.aHigh, half, s.time + half⟩, decide (n = 2)⟩ } :
            State).verdictHanded true s.vote.lastClosed
      | .peerDivergent => ({ voted with
          lane := { s.lane with deadline := some (s.time + s.config.deadline) }
          attention := told.raise (.vote s.vote.lastClosed (some .peerDivergent) (some n) odd none) } :
            State).verdictHanded false s.vote.lastClosed
      | .outvoted => voted.stopRequest .outvoted 0
      | .noMajority => voted.stopRequest .noMajority 0
      | .alone => voted.stopRequest .alone 0) ∧
      t.vote = { s.vote with
        state := .decided
        window := none
        lastVerdict := some ⟨s.vote.lastClosed, verdict, n, odd⟩ } ∧
      t.peerU.held = none ∧ t.peerV.held = none ∧
      (∀ port, (s.peer port).misses = true →
        let miss := if (s.peer port).miss < 15 then (s.peer port).miss + 1 else (s.peer port).miss
        t.peer port = { s.peer port with
          miss := miss
          state := if s.config.missLimit ≤ miss then .absent else (s.peer port).state }) ∧
      (verdict = .agreed → t.lane = ⟨some .service, true, s.lane.stopCause, some (s.time + s.config.deadline)⟩ ∧
        t.health.degraded = decide (n = 2) ∧ (∀ port, (s.peer port).held.isSome → (t.peer port).state = .present) ∧
        (s.lane.confirmed = true → t.health.wave = s.health.wave) ∧
        (s.lane.confirmed = false →
          let half := if n = 2 then 2 * s.config.halfPeriod else s.config.halfPeriod
          t.health.wave = some ⟨.aHigh, half, s.time + half⟩)) ∧
      (verdict = .peerDivergent →
        t.lane = { s.lane with deadline := some (s.time + s.config.deadline) } ∧ t.health = s.health ∧
        ∀ port, (s.peer port).held.isSome →
          (t.peer port).state = if odd = some (s.peerLane port) then .divergent else .present) ∧
      (verdict = .outvoted → t.lane = ⟨some .stopped, false, some .outvoted, none⟩) ∧
      (verdict = .noMajority → t.lane = ⟨some .stopped, false, some .noMajority, none⟩) ∧
      (verdict = .alone → t.lane = ⟨some .stopped, false, some .alone, none⟩)

/-- A DIGEST handed to the vote unit by its link: refused contents, a confirmed byte or a digest out of range among them, count
as a failed check; a taken one is a delivery, goes to the early slot, is late, or counts for presence only, by the lane mode,
its cycle and the vote state. A delivery decides the open vote if some peer is PRESENT and every PRESENT peer has delivered
(R100, R101, R102, R103, R104, R105, R188). -/
def Obligations.DigestArrival : Prop :=
  (∀ s : State,
    let early := s.vote.state = .opened ∧ (s.peerU.state = .present ∨ s.peerV.state = .present) ∧
      (s.peerU.state = .present → s.peerU.held.isSome) ∧ (s.peerV.state = .present → s.peerV.held.isSome)
    (early → s.decideIfEarly = s.decideVote) ∧ (¬ early → s.decideIfEarly = s)) ∧
  (∀ (s : State) (port : LinkPort) (sender m : Nat) (confirmed : Option Bool) (list : Option DigestList),
    confirmed = none ∨ list = none → s.handFrame port (.digest sender m confirmed list) = s.checkFail port) ∧
  (∀ (sender a b : Word) (ws : List Word), readBody 1 sender (a :: b :: ws) =
    some (.digest (sender.toNat / 256) (a.toNat * 65536 + b.toNat)
      (if sender.toNat % 256 = 0 then some false else if sender.toNat % 256 = 1 then some true else none) (readList ws))) ∧
  (∀ (a b : Word) (ws : List Word), readList (a :: b :: ws) = none ↔
    2 ≤ a.toNat / 256 ∨ a.toNat / 256 = 1 ∧ b ≠ 0 ∨ readList ws = none) ∧
  (∀ l : DigestList, listFits l = true ↔ ∃ front d, l = front ++ [(16, d)] ∧ front.length ≤ 16 ∧
    (front.map Prod.fst).Pairwise (· < ·) ∧ ∀ e ∈ front, e.1 ≤ 15) ∧
  ∀ (s : State) (port : LinkPort) (sender m : Nat) (confirmed : Bool) (list : DigestList),
    let t := s.handFrame port (.digest sender m (some confirmed) (some list))
    let p : PeerRecord := { s.peer port with lastCycle := m, confirmed := confirmed }
    let heard : PeerState := if p.state = .divergent then .divergent else .present
    let good := sender = s.peerLane port ∧ listFits list = true
    let open_ := m = s.vote.lastClosed ∧ s.vote.state = .opened
    (¬ good → t = s.checkFail port) ∧
    (good → s.inService = true → open_ →
      t = (s.setPeer port { p with held := some list, miss := 0, state := heard }).decideIfEarly) ∧
    (good → s.inService = true → s.vote.lastClosed < m →
      (p.early = none → t = s.setPeer port { p with early := some ⟨m, confirmed, list⟩ }) ∧
      (p.early ≠ none → t = (s.setPeer port
        { p with early := some ⟨m, confirmed, list⟩, earlyOverwritten := true }).raise
          (.link (s.peerLane port) .earlyOverwritten))) ∧
    (good → s.inService = true → m ≤ s.vote.lastClosed → ¬ open_ →
      t = (s.setPeer port { p with
        late := if p.late < 255 then p.late + 1 else p.late
        state := heard
        miss := if p.state = .absent ∨ p.state = .joining then 0 else p.miss }).raise (.link (s.peerLane port) .late)) ∧
    (good → s.inService = false → s.isJoining = false → t = s.setPeer port { p with state := heard, miss := 0 }) ∧
    (good → s.inService = false → s.isJoining = true →
      t = (s.setPeer port { p with state := heard, miss := 0 }).peerHeard port)

/-- The other timers: the deadline stops the lane, the half-period toggles the wave for a half-period by the degraded flag,
and a link timeout takes the link DOWN with LINK raised and ends a serve to its peer. Each carries the timebase to the
instant of its expiry, which is the model's own choice (R122, R130, R131, R144, R163; log 1). -/
def Obligations.TimersExpire : Prop :=
  (∀ (s : State) (d : Nat), s.lane.deadline = some d →
    ∃ t, exec .deadlineExpiry s = .next t ∧ t = ({ s with time := max s.time d } : State).stopRequest .deadline 0 ∧
      (s.inService = true → t.lane = ⟨some .stopped, false, some .deadline, none⟩ ∧ t.health = ⟨none, false⟩)) ∧
  (∀ (s : State) (w : Wave), s.health.wave = some w →
    let half := if s.health.degraded = true then 2 * s.config.halfPeriod else s.config.halfPeriod
    let now := max s.time w.toggleAt
    exec .halfPeriodExpiry s = .next { s with
      time := now
      health := { s.health with wave := some ⟨if w.phase = .aHigh then .aLow else .aHigh, half, now + half⟩ } }) ∧
  ∀ (s : State) (port : LinkPort) (l : Nat), (s.link port).timer = some l →
    let down := (({ s with time := max s.time l } : State).setLink port
      { s.link port with up := false, timer := none }).raise (.link (s.peerLane port) .down)
    (s.serving port = false → exec (.linkTimeout port) s = .next down) ∧
    (s.serving port = true → exec (.linkTimeout port) s = .next (down.endServe .linkDown none) ∧
      (down.endServe .linkDown none).serve = none)

/-! ### The links -/

/-- Every frame is read back from its words with all its contents; on a line with no frame in part received its words bring
the link UP, start its timer afresh and hand it on, and a frame whose check fails is counted with LINK raised. A frame fails
when its check word is not the check of its words, its kind is none of the table, or its length is none of its kind, a PAGE's
being its count and 6 (R161, R162, R163, R188). The check word is formed bit by bit (R186). -/
def Obligations.LinkFrameReceived : Prop :=
  (∀ f : LinkFrame, f.fits = true → checkLinkFrame f.words = some f.received) ∧
  (∀ (head : Word) (rest : List Word), head.toNat % 4096 = rest.length + 2 →
    let kind := head.toNat / 4096
    let length := head.toNat % 4096
    let fits := kind = 0 ∧ length = 3 ∨ (kind = 1 ∨ kind = 8) ∧ 8 ≤ length ∧ length ≤ 40 ∧ length % 2 = 0 ∨
      kind = 2 ∧ length = 4 ∨ (kind = 3 ∨ kind = 4 ∨ kind = 5) ∧ length = 5 ∨
      kind = 6 ∧ 7 ≤ length ∧ length ≤ 134 ∧ (∃ count, rest[2]? = some count ∧ length = count.toNat + 6) ∨
      kind = 7 ∧ length = 244
    checkLinkFrame (0x5AC3#16 :: head :: rest) = none ↔
      rest.getLast? ≠ some (crcWords (head :: rest.dropLast)) ∨ ¬ fits) ∧
  (∀ ws : List Word, crcWords ws = crcBytes (ws.flatMap fun w => [BitVec.ofNat 8 (w.toNat / 256), BitVec.ofNat 8 w.toNat])) ∧
  (∀ bs : List Byte, crcBytes bs =
    (bs.flatMap fun b => [7, 6, 5, 4, 3, 2, 1, 0].map fun k => b.getLsbD k).foldl (fun (r : Word) bit =>
      if r.getLsbD 15 = bit then r <<< 1 else (r <<< 1) ^^^ 0x1021#16) 0xFFFF#16) ∧
  (∀ (s : State) (port : LinkPort) (f : LinkFrame), f.fits = true → s.sweep = none → (s.link port).rx = [] →
    exec (.linkFrameCheck port f.words) s = .next ((s.heardLink port).handFrame port f.received)) ∧
  (∀ (s : State) (port : LinkPort),
    let l : Link := { s.link port with up := true, timer := some (s.time + s.config.linkTimeout) }
    ((s.link port).up = true → s.heardLink port = s.setLink port l) ∧
    ((s.link port).up = false → s.heardLink port = (s.setLink port l).raise (.link (s.peerLane port) .up))) ∧
  ∀ (s : State) (port : LinkPort) (head : Word) (rest : List Word), s.sweep = none → (s.link port).rx = [] →
    head.toNat % 4096 = rest.length + 2 → checkLinkFrame (0x5AC3#16 :: head :: rest) = none →
    exec (.linkFrameCheck port (0x5AC3#16 :: head :: rest)) s = .next
      ((s.setLink port { s.link port with
        errors := if (s.link port).errors < 255 then (s.link port).errors + 1 else (s.link port).errors }).raise
          (.link (s.peerLane port) .checkFail))

/-- A frame cut off by quiet on the line fails its check. The end of a frame lets the oldest control frame leave, else the
oldest bulk frame, else the line is quiet; when the head of a full bulk queue begins to leave, a serve over the link makes
its next send step in the same event. On a quiet line an idle fill leaves. A control frame is put at the newest end, in a
full queue in place of the oldest DIGEST, and with no DIGEST there it is discarded. A bulk frame is put at the newest end of
the bulk queue. On a quiet line the oldest control frame, else the oldest bulk frame, leaves at once (R157, R158, R159, R160,
R161). That an idle fill carries the timebase 5 ms past the last departure is the model's choice (log 1, DESIGN CHOICE), and
that LOCK-IMAGE and SYNC-MARK are not such a step is its reading (log 41, DEDUCED). -/
def Obligations.LinkLineEvents : Prop :=
  (∀ (s : State) (port : LinkPort) (w : Word) (ws : List Word), (s.link port).rx = w :: ws →
    exec (.linkReceiveCutOff port) s = .next
      ((s.setLink port { s.link port with
        rx := []
        errors := if (s.link port).errors < 255 then (s.link port).errors + 1 else (s.link port).errors }).raise
          (.link (s.peerLane port) .checkFail))) ∧
  (∀ (s : State) (port : LinkPort) (x : LinkFrame × LinkQueue), (s.link port).leaving = some x →
    let l := s.link port
    (∀ f fs, l.control = f :: fs → exec (.transmitEnd port) s = .next
      (s.setLink port { l with control := fs, leaving := some (f, .control), idleFrom := s.time })) ∧
    (∀ f fs, l.control = [] → l.bulk = f :: fs →
      let left := s.setLink port { l with bulk := fs, leaving := some (f, .bulk), idleFrom := s.time }
      (l.bulk.length ≠ 2 ∨ s.serving port = false → exec (.transmitEnd port) s = .next left) ∧
      (∀ v, l.bulk.length = 2 → s.serve = some v → v.receiver = port →
        exec (.transmitEnd port) s = if v.phase = .bulk then exec .sendStep left else exec .finalSendStep left)) ∧
    (l.control = [] → l.bulk = [] → exec (.transmitEnd port) s = .next (s.setLink port { l with leaving := none }))) ∧
  (∀ (s : State) (port : LinkPort), s.sweep = none → (s.link port).leaving = none → (s.link port).control = [] →
    (s.link port).bulk = [] →
    let now := max s.time ((s.link port).idleFrom + 5)
    exec (.idleFill port) s = .next (({ s with time := now } : State).setLink port
      { s.link port with leaving := some (⟨s.config.lane, .idleFill⟩, .fill), idleFrom := now })) ∧
  (∀ (s : State) (port : LinkPort) (b : LinkBody), s.putControl port b =
    s.setLink port ((s.link port).putControl s.time ⟨s.config.lane, b⟩)) ∧
  (∀ (l : Link) (now : Nat) (f : LinkFrame),
    (l.leaving ≠ none → l.putControl now f = { l with control := controlPut l.control f }) ∧
    (l.leaving = none → l.control = [] → l.putControl now f = { l with leaving := some (f, .control), idleFrom := now }) ∧
    ∀ g rest, l.leaving = none → controlPut l.control f = g :: rest →
      l.putControl now f = { l with control := rest, leaving := some (g, .control), idleFrom := now }) ∧
  (∀ (s : State) (port : LinkPort) (b : LinkBody), s.putBulk port b =
    s.setLink port ((s.link port).putBulk s.time ⟨s.config.lane, b⟩)) ∧
  (∀ (l : Link) (now : Nat) (f : LinkFrame),
    (l.leaving ≠ none → l.putBulk now f = { l with bulk := l.bulk ++ [f] }) ∧
    (l.leaving = none → l.control = [] → l.bulk = [] →
      l.putBulk now f = { l with leaving := some (f, .bulk), idleFrom := now }) ∧
    (∀ g rest, l.leaving = none → l.control = [] → l.bulk = g :: rest →
      l.putBulk now f = { l with bulk := rest ++ [f], leaving := some (g, .bulk), idleFrom := now }) ∧
    ∀ g rest, l.leaving = none → l.control = g :: rest →
      l.putBulk now f = { l with control := rest, bulk := l.bulk ++ [f], leaving := some (g, .control), idleFrom := now }) ∧
  (∀ (q : List LinkFrame) (f : LinkFrame), q.length < 4 → controlPut q f = q ++ [f]) ∧
  (∀ (before after : List LinkFrame) (d f : LinkFrame), (∀ x ∈ before, x.isDigest = false) → d.isDigest = true →
    4 ≤ (before ++ d :: after).length → controlPut (before ++ d :: after) f = before ++ after ++ [f]) ∧
  ∀ (q : List LinkFrame) (f : LinkFrame), 4 ≤ q.length → (∀ x ∈ q, x.isDigest = false) → controlPut q f = q

/-! ### Restoration -/

/-- A JOIN-ASK is judged by the checks in order: a wrong lane number counts as a failed check, each other check declines
with its reason, and one that passes all begins a serve in BULK with every VITAL page dirty, the asking peer JOINING, and
JOIN-OFFER queued. One from the receiver of the serve under way ends that serve first (R135, R136). That a wrong lane number
over the receiver's link is a failed check too, and ends no serve, is the model's choice (log 43, DESIGN CHOICE). -/
def Obligations.JoinAskJudged : Prop :=
  ∀ (s : State) (port : LinkPort),
    let asked := fun sender => s.handFrame port (.joinAsk sender)
    let declined := fun reason => (s.putControl port (.joinDecline reason)).raise
      (.restore .donor .declined (some reason) s.vote.lastClosed)
    let serves := s.inService = true ∧ s.lane.confirmed = true
    let agreed := ∃ v, s.vote.lastVerdict = some v ∧ v.verdict = .agreed
    (∀ sender, sender ≠ s.peerLane port → asked sender = s.checkFail port) ∧
    (s.serving port = true → asked (s.peerLane port) = (s.endServe .askedAgain none).judgeAsk port) ∧
    (s.serving port = false → asked (s.peerLane port) = s.judgeAsk port) ∧
    (s.config.serveEnable = false → s.judgeAsk port = declined .notEnabled) ∧
    (s.config.serveEnable = true → ¬ serves → s.judgeAsk port = declined .notServing) ∧
    (s.config.serveEnable = true → serves → s.serve ≠ none → s.judgeAsk port = declined .busyServing) ∧
    (s.config.serveEnable = true → serves → s.serve = none → ¬ agreed → s.judgeAsk port = declined .notAgreed) ∧
    (s.config.serveEnable = true → serves → s.serve = none → agreed →
      let t := s.judgeAsk port
      t = { (s.putControl port (.joinOffer s.vitalPages.length)).setPeer port { s.peer port with state := .joining } with
        serve := some ⟨port, .bulk, s.vitalPages, [], 0, none, none, [], [], [], none, none, 0, false, 0⟩
        attention := s.attention.raise (.restore .donor .accepted none s.vote.lastClosed) })

/-- A send step in BULK chooses the lowest dirty page from the cursor on, reads the burst and queues it as a PAGE frame;
one that finds a DOUBLE word queues nothing. With the bulk queue full, a decision pending or nothing to send, none is made.
The completion of a close prepares the final decision where the first pass is done and no more than F pages are left, and
AGREED confirms it, PEER-DIVERGENT withdraws it. A verdict at the convergence limit that confirms no decision ends the serve
with NO-CONVERGENCE, and none is used in FINAL (R137, R139, R140, R142, R143). -/
def Obligations.ServeSendsAndDecides : Prop :=
  (∀ v : Serve, v.dirty.Pairwise (· < ·) → (v.nextDirty = none ↔ v.dirty = []) ∧ ∀ p, v.nextDirty = some p →
    p ∈ v.dirty ∧ (v.cursor ≤ p ∧ (∀ q ∈ v.dirty, v.cursor ≤ q → p ≤ q) ∨
      (∀ q ∈ v.dirty, q < v.cursor) ∧ ∀ q ∈ v.dirty, p ≤ q)) ∧
  (∀ (v : Serve) (p : Nat), p ∈ v.candidate ↔ p ∈ v.dirty ∨ ∃ x, v.inSend = some x ∧ x.page = p) ∧
  (∀ (xs ys : List Nat) (p : Nat), p ∈ setUnion xs ys ↔ p ∈ xs ∨ p ∈ ys) ∧
  (∀ (s : State) (n : Nat) (v : Serve) (agreed : Bool), s.serve = some v →
    (v.phase = .final → s.verdictHanded agreed n = s) ∧
    (v.phase = .bulk → v.pendingCycle ≠ some n → s.verdictHanded agreed n =
      if v.convergence = 32 then s.endServe .noConvergence (some .noConvergence) else s) ∧
    (v.phase = .bulk → v.pendingCycle = some n → v.convergence = 32 → s.verdictHanded false n =
      s.endServe .noConvergence (some .noConvergence))) ∧
  (∀ (s : State) (v : Serve), s.serve = some v → v.phase = .bulk →
    (v.pendingCycle ≠ none ∨ 2 ≤ (s.link v.receiver).bulk.length ∨ v.inSend = none ∧ v.dirty = [] →
      exec .sendStep s = .next s) ∧
    (∀ s1 words x, v.pendingCycle = none → (s.link v.receiver).bulk.length < 2 → v.inSend = some x →
      s.readRun x.page .send x.next s.config.burst = (s1, some words) →
      let sent : Serve := if x.next + words.length < 256
        then { v with inSend := some { x with next := x.next + words.length } }
        else { v with sentOnce := setInsert x.page v.sentOnce, inSend := none }
      exec .sendStep s = .next
        (({ s1 with serve := some sent } : State).putBulk v.receiver (.page x.page x.next words))) ∧
    (∀ s1 x, v.pendingCycle = none → (s.link v.receiver).bulk.length < 2 → v.inSend = some x →
      s.readRun x.page .send x.next s.config.burst = (s1, none) → exec .sendStep s = .next s1) ∧
    (∀ p, v.pendingCycle = none → v.inSend = none → v.nextDirty = some p →
      exec .sendStep s = if 2 ≤ (s.link v.receiver).bulk.length then .next s else exec .sendStep
        { s with serve := some { v with
          dirty := v.dirty.filter fun q => q != p
          cursor := if p + 1 < 120 then p + 1 else 0
          inSend := some ⟨p, 0, false⟩ } })) ∧
  (∀ (s : State) (n : Nat) (v : Serve), s.serve = some v → v.phase = .bulk → v.pendingCycle = none →
    let covered := ∀ p ∈ s.vitalPages, p ∈ v.sentOnce
    let count := if v.convergence < 32 then v.convergence + 1 else v.convergence
    (¬ covered → s.closeCompleted n = s) ∧
    (covered → s.config.finalLimit < v.candidate.length →
      s.closeCompleted n = { s with serve := some { v with convergence := count } }) ∧
    (covered → v.candidate.length ≤ s.config.finalLimit → s.closeCompleted n = { s with serve := some { v with
      convergence := count
      pendingCycle := some n
      finalCycle := n
      finalSet := v.candidate
      fullySent := []
      inSend := none
      dirty := []
      lockImage := some (s.locks.toList.map LockRecord.timer)
      keptList := s.vote.ownList } })) ∧
  ∀ (s : State) (n : Nat) (v : Serve), s.serve = some v → v.phase = .bulk → v.pendingCycle = some n →
    s.verdictHanded true n = { s with serve := some { v with phase := .final, pendingCycle := none, dirty := [] } } ∧
    (v.convergence < 32 → s.verdictHanded false n = { s with serve := some { v with
      dirty := setUnion v.finalSet v.dirty
      slots := []
      finalSet := []
      fullySent := []
      lockImage := none
      keptList := none
      pendingCycle := none } })

/-- In FINAL a send step takes the lowest unsent page of the final set from its slot or the store; after the last page
LOCK-IMAGE and then SYNC-MARK are queued, each when the bulk queue has room, and the serve ends SERVED. A step that reads the
store and finds a DOUBLE word queues no frame (R137, R142). -/
def Obligations.FinalStepsInOrder : Prop :=
  ∀ (s : State) (v : Serve), s.serve = some v → v.phase = .final →
    let room := (s.link v.receiver).bulk.length < 2
    let allSent := v.inSend = none ∧ ∀ p ∈ v.finalSet, p ∈ v.fullySent
    let sent := fun (x : InSend) => if x.next + s.config.burst < 256
      then { v with inSend := some { x with next := x.next + s.config.burst } }
      else { v with
        fullySent := setInsert x.page v.fullySent
        slots := v.slots.filter (fun y => y.page != x.page)
        inSend := none }
    (∀ x words, room → v.inSend = some x → x.fromSlot = true → v.slotOf x.page = some ⟨x.page, words⟩ →
      exec .finalSendStep s = .next (({ s with serve := some (sent x) } : State).putBulk v.receiver
        (.page x.page x.next ((words.drop x.next).take s.config.burst)))) ∧
    (∀ x s1 words, room → v.inSend = some x → x.fromSlot = false →
      s.readRun x.page .send x.next s.config.burst = (s1, some words) →
      exec .finalSendStep s = .next (({ s1 with serve := some (sent x) } : State).putBulk v.receiver
        (.page x.page x.next words))) ∧
    (∀ x s1, room → v.inSend = some x → x.fromSlot = false →
      s.readRun x.page .send x.next s.config.burst = (s1, none) → exec .finalSendStep s = .next s1) ∧
    (∀ p, room → v.inSend = none → v.finalSet.find? (fun q => !v.fullySent.contains q) = some p →
      exec .finalSendStep s = exec .finalSendStep
        { s with serve := some { v with inSend := some ⟨p, 0, (v.slotOf p).isSome⟩ } }) ∧
    (∀ timers, room → allSent → v.lockImageQueued = false → v.lockImage = some timers →
      exec .lockImageQueued s = .next
        (({ s with serve := some { v with lockImageQueued := true } } : State).putBulk v.receiver (.lockImage timers))) ∧
    (∀ list, room → v.lockImageQueued = true → v.keptList = some list → exec .syncMarkQueued s = .next
      ((({ s with serve := none } : State).putBulk v.receiver (.syncMark v.finalCycle list)).raise
        (.restore .donor .served none v.finalCycle))) ∧
    (¬ room → exec .finalSendStep s = .next s ∧ exec .lockImageQueued s = .next s ∧ exec .syncMarkQueued s = .next s) ∧
    (v.lockImageQueued = false → exec .syncMarkQueued s = .next s) ∧
    (¬ allSent → exec .lockImageQueued s = .next s)

/-- A failed attempt raises RESTORE, and stops the lane at the fourth; else the candidate is no longer heard, and the next
attempt asks the other peer if it has been heard. The silence timer's end fails the attempt with DONOR-SILENT and a
JOIN-ABORT. A peer that is heard gets its flag, and in WAITING an attempt with it starts: the count rises, the silence timer
starts and JOIN-ASK is queued (R146, R148, R153). That the silence timer's end carries the timebase to its instant is the
model's choice (log 1, DESIGN CHOICE), and so is that the landed set, the landing offsets and the lock image taken flag keep
the failed attempt's values, also in the attempt that starts next (R147, R153; log 44, DESIGN CHOICE). -/
def Obligations.AttemptFails : Prop :=
  (∀ (s : State) (port : LinkPort), s.join = none → s.peerHeard port = s) ∧
  (∀ (s : State) (port : LinkPort) (j : Join), s.join = some j →
    let heard : Join := match port with
      | .u => { j with heardU := true }
      | .v => { j with heardV := true }
    (j.phase ≠ .waiting → s.peerHeard port = { s with join := some heard }) ∧
    (j.phase = .waiting → s.peerHeard port = ({ s with join := some { heard with
      phase := .asked
      attempts := j.attempts + 1
      candidate := some port
      silence := some (s.time + s.config.linkTimeout) } } : State).putControl port .joinAsk)) ∧
  (∀ (s : State) (j : Join) (x : Nat), s.join = some j → j.silence = some x →
    exec .silenceTimerExpiry s = .next
      (({ s with time := max s.time x } : State).failAttempt .donorSilent (some .donorSilent))) ∧
  ∀ (s : State) (j : Join) (port : LinkPort) (reason : RestoreReason) (abort : Option RestoreReason), s.join = some j →
    j.candidate = some port →
    let sent := match abort with
      | some r => s.putControl port (.joinAbort r)
      | none => s
    let back : Join := { j.setHeard port false with phase := .waiting, candidate := none, silence := none }
    let failed : State := { sent with
      join := some back
      attention := s.attention.raise (.restore .receiver .failed (some reason) s.vote.lastClosed) }
    let t := s.failAttempt reason abort
    (4 ≤ j.attempts → t = failed.stopRequest .joinFailed 0 ∧
      (s.isJoining = true → t.lane = ⟨some .stopped, false, some .joinFailed, none⟩ ∧ t.join = none)) ∧
    (j.attempts < 4 → j.heard (otherPort port) = false → t = failed) ∧
    (j.attempts < 4 → j.heard (otherPort port) = true → t = ({ failed with join := some { back with
      candidate := some (otherPort port)
      attempts := j.attempts + 1
      phase := .asked
      silence := some (s.time + s.config.linkTimeout) } } : State).putControl (otherPort port) .joinAsk)

/-- In LANDING, a PAGE frame from the donor that passes its checks lands its words and sets the page's landing offset and
place in the landed set, and one that fails them fails the attempt; a LOCK-IMAGE is taken or refused whole. A frame that
is not the donor's is answered STALE, a PAGE only at offset 0. In ASKED a JOIN-OFFER of the right page count from the
candidate begins the landing and one of a wrong count fails the attempt, and a JOIN-DECLINE fails it; a JOIN-ABORT fails the
attempt of its sender, ends the serve to it, or makes a JOINING sender ABSENT; out of place an offer is answered STALE and
a decline or abort is discarded (R90, R144, R147, R148, R149, R150, R153, R154). A frame with a bad code counts as a failed
check, in or out of place (R188; for a LOCK-IMAGE out of place the model's choice, log 39, DESIGN CHOICE), and one of the
exchange under way restarts the silence timer, the model's reading (log 21, DEDUCED). A lock image is taken when each of its
records keeps the field rules of its state (R72, R90); that the overrange flag goes with a count of -4095 is the model's reading
(log 22, DEDUCED). -/
def Obligations.LandingFrames : Prop :=
  (∀ (s : State) (port : LinkPort) (j : Join) (pages : Nat), s.join = some j → j.phase = .asked → j.candidate = some port →
    let t := s.handFrame port (.joinOffer pages)
    (pages = s.vitalPages.length → t = { s with join := some { j with
      phase := .landing
      landed := []
      offsets := Vector.replicate 120 none
      lockImageTaken := false
      silence := some (s.time + s.config.linkTimeout) } }) ∧
    (pages ≠ s.vitalPages.length → t = s.failAttempt .mismatch (some .mismatch)) ∧
    s.handFrame port (.joinDecline none) =
      ({ s with join := some { j with silence := some (s.time + s.config.linkTimeout) } } : State).checkFail port ∧
    ∀ reason, s.handFrame port (.joinDecline (some reason)) = s.failAttempt reason none) ∧
  (∀ (s : State) (port : LinkPort), (∀ j, s.join = some j → j.phase ≠ .asked ∨ j.candidate ≠ some port) →
    (∀ pages, s.handFrame port (.joinOffer pages) = s.putControl port (.joinAbort .stale)) ∧
    (∀ reason, s.handFrame port (.joinDecline (some reason)) = s) ∧
    s.handFrame port (.joinDecline none) = s.checkFail port) ∧
  (∀ (s : State) (port : LinkPort) (j : Join) (reason : RestoreReason), s.join = some j → j.candidate = some port →
    s.serving port = false → s.handFrame port (.joinAbort (some reason)) = s.failAttempt reason none) ∧
  (∀ (s : State) (port : LinkPort) (j : Join), s.join = some j → j.candidate = some port →
    s.handFrame port (.joinAbort none) =
      ({ s with join := some { j with silence := some (s.time + s.config.linkTimeout) } } : State).checkFail port) ∧
  (∀ (s : State) (port : LinkPort), (∀ j, s.join = some j → j.candidate ≠ some port) →
    s.handFrame port (.joinAbort none) = s.checkFail port ∧
    ∀ reason, s.handFrame port (.joinAbort (some reason)) =
      if s.serving port = true then s.endServe reason none
      else if (s.peer port).state = .joining then s.setPeer port { s.peer port with state := .absent }
      else s) ∧
  (∀ (s : State) (port : LinkPort) (j : Join) (page offset : Nat) (words : List Word), s.join = some j →
    j.phase = .landing → j.candidate = some port →
    let t := s.handFrame port (.page page offset words)
    let n := words.length
    let fits := s.isVital page = true ∧ (s.page page).isRestoring = true ∧ 1 ≤ n ∧ n ≤ 128 ∧ offset + n ≤ 256
    let timed : State := { s with join := some { j with silence := some (s.time + s.config.linkTimeout) } }
    let reached := if offset = 0 then some n
      else if tableGet j.offsets page none = some offset then some (offset + n) else none
    (¬ fits → t = timed.failAttempt .mismatch (some .mismatch)) ∧
    (fits → ∃ k, t = { s.writeRun page offset words with join := some k } ∧
      k = { j with silence := some (s.time + s.config.linkTimeout), offsets := k.offsets, landed := k.landed } ∧
      tableGet k.offsets page none = reached ∧
      (∀ q, q ≠ page → tableGet k.offsets q none = tableGet j.offsets q none ∧ (q ∈ k.landed ↔ q ∈ j.landed)) ∧
      (reached = some 256 → page ∈ k.landed) ∧
      (reached ≠ some 256 → offset = 0 ∨ reached = none → page ∉ k.landed))) ∧
  (∀ (s : State) (port : LinkPort) (j : Join) (timers : List LockTimer), s.join = some j → j.phase = .landing →
    j.candidate = some port →
    let t := s.handFrame port (.lockImage (some timers))
    let timed : State := { s with join := some { j with silence := some (s.time + s.config.linkTimeout) } }
    (timers.length = 48 → (∀ x ∈ timers, s.timerFits x = true) →
      t.join = some { j with silence := some (s.time + s.config.linkTimeout), lockImageTaken := true } ∧
      (∀ k x, timers[k]? = some x → t.lock k = ⟨x, none, false⟩) ∧ t = { s with join := t.join, locks := t.locks }) ∧
    s.handFrame port (.lockImage none) = timed.checkFail port ∧
    (timers.length ≠ 48 ∨ (∃ x ∈ timers, s.timerFits x = false) →
      t = timed.failAttempt .mismatch (some .mismatch))) ∧
  (∀ (s : State) (x : LockTimer),
    let armed := 1 ≤ x.preset ∧ x.preset ≤ 60000 ∧ (x.mode = some .plain ∧ x.gate = none ∨
      (x.mode = some .pause ∨ x.mode = some .rearm) ∧ ∃ g, x.gate = some g ∧ g < 30720 ∧ s.isVital (g / 256) = true)
    (x.state = .idle → (s.timerFits x = true ↔ x.mode = none ∧ x.gate = none ∧ x.preset = 0 ∧ x.pending = none ∧
      x.remaining = 0 ∧ x.overrange = false)) ∧
    (x.state = .running → (s.timerFits x = true ↔ armed ∧ 1 ≤ x.remaining ∧ x.remaining ≤ x.preset ∧ x.overrange = false ∧
      ∀ p, x.pending = some p → x.mode = some .rearm ∧ 1 ≤ p ∧ p ≤ 60000)) ∧
    (x.state = .expired → (s.timerFits x = true ↔ armed ∧ -4095 ≤ x.remaining ∧ x.remaining ≤ 0 ∧ x.pending = none ∧
      (x.overrange = true → x.remaining = -4095)))) ∧
  ∀ (s : State) (port : LinkPort), (∀ j, s.join = some j → j.phase ≠ .landing ∨ j.candidate ≠ some port) →
    (∀ page offset words, s.handFrame port (.page page offset words) =
      if offset = 0 then s.putControl port (.joinAbort .stale) else s) ∧
    (∀ timers, s.handFrame port (.lockImage (some timers)) = s.putControl port (.joinAbort .stale)) ∧
    s.handFrame port (.lockImage none) = s.checkFail port ∧
    ∀ n list, s.handFrame port (.syncMark n list) = s.putControl port (.joinAbort .stale)

/-- A SYNC-MARK from the donor whose cycle is at least 1, with every VITAL page landed, a LOCK-IMAGE taken and the own list
equal to the donor's, completes the join: the lane is in SERVICE, unconfirmed, at the donor's cycle, its VITAL regions CLEAN
and its VITAL pages back in ordinary access, and a patrol that waits selects; otherwise the attempt fails (R58, R151, R152). A list with a digest out of range
fails the check in the same way, which is the model's choice (log 40, DESIGN CHOICE). -/
def Obligations.SyncMarkCompletesJoin : Prop :=
  ∀ (s : State) (port : LinkPort) (j : Join) (n : Nat) (list : DigestList), s.join = some j → j.phase = .landing →
    j.candidate = some port →
    let t := s.handFrame port (.syncMark n (some list))
    let passes := 1 ≤ n ∧ (∀ p ∈ s.vitalPages, p ∈ j.landed) ∧ j.lockImageTaken = true ∧ list = s.closingList
    s.handFrame port (.syncMark n none) = s.failAttempt .mismatch (some .mismatch) ∧
    (¬ passes → t = ({ s with join := some { j with
      silence := some (s.time + s.config.linkTimeout) } } : State).failAttempt .mismatch (some .mismatch)) ∧
    (passes →
      t.lane = ⟨some .service, false, s.lane.stopCause, some (s.time + s.config.deadline)⟩ ∧
      t.vote = ⟨n, .none, none, none, none⟩ ∧
      (∀ p, t.peer p = { s.peer p with miss := 0, held := none, early := none }) ∧
      (∀ id r, s.region id = some r → t.region id = some (if r.cls = .vital then { r with state := .clean } else r)) ∧
      (∀ id r page, s.region id = some r → r.cls = .vital → page ∈ r.pages →
        (∀ f, s.page page = .restoring f → t.page page = .active f) ∧
        ∀ f g c p m, s.page page = .moving f g c p m → t.page page = .moving f g c p false) ∧
      (∀ page, (∀ id r, s.region id = some r → r.cls = .vital → page ∉ r.pages) → t.page page = s.page page) ∧
      (s.patrol.pass ≠ none ∨ s.config.pace = 0 → t.patrol = s.patrol) ∧
      (s.patrol.pass = none → 0 < s.config.pace →
        t.patrol = match (walkOrder s.patrol.walk).find? (fun i => t.eligible i) with
          | some id => ⟨some id, some ⟨id, 0, 0, false⟩⟩
          | none => s.patrol) ∧
      t = { s with
        regions := t.regions
        pages := t.pages
        patrol := t.patrol
        vote := t.vote
        peerU := t.peerU
        peerV := t.peerV
        lane := t.lane
        serve := none
        join := none
        attention := s.attention.raise (.restore .receiver .joined none n) })

/-! ### The digest formula -/

/-- Two sets of written values that differ in exactly one word have different digests: they differ by the change times the
weight, and neither is a multiple of the prime 65537. Two words can be changed together and leave the digest as it was
(R43, R44, R49). The zero-image digest is the digest of a region whose written values are all 0 (R45). The formula is the sum of
each word and 1 times its weight, modulo 65537, and a region's is over its written values by region offset, a word of an
UNMAPPED page being 0 (R42, R43, R44). -/
def Obligations.OneWordChangesDigest : Prop :=
  (∀ (seed : Nat) (before after : List Nat) (v w : Nat), 1 ≤ seed → seed ≤ 65536 → v < 65536 → w < 65536 → v ≠ w →
    before.length + after.length < 4096 →
    digestOf seed (before ++ v :: after) ≠ digestOf seed (before ++ w :: after)) ∧
  (∀ (seed : Nat) (before after : List Nat) (v w : Nat),
    digestOf seed (before ++ w :: after) - digestOf seed (before ++ v :: after) =
      (Fin.ofNat 65537 w - Fin.ofNat 65537 v) * weight seed before.length) ∧
  (∀ rest : List Nat, ∀ v w, 3 ≤ w → digestOf 3 ((v + 6) :: (w - 3) :: rest) = digestOf 3 (v :: w :: rest)) ∧
  (∀ pages seed : Nat, zeroImage pages seed = digestOf seed (List.replicate (pages * 256) 0)) ∧
  (∀ (seed : Nat) (words : List Nat), (digestOf seed words).val =
    ((List.range words.length).map fun i => (words.getD i 0 + 1) * ((i + 1) * seed)).sum % 65537) ∧
  ∀ (s : State) (r : Region), s.regionDigest r = digestOf r.seed ((List.range (r.count * 256)).map fun i =>
    match (s.page (r.first + i / 256)).frameAt (i % 256) with
    | some frame => (s.cell frame (i % 256)).written.toNat
    | none => 0)

/-! ### What every step keeps -/

/-- Every step keeps the list that holds the words of the store (R1) in its canonical form. The form is the model's own (log 9,
DESIGN CHOICE): no rule of the spec states it. -/
def Obligations.MemoryStaysCanonical : Prop := ∀ s t : State, s.mem.wf → step s = .next t → t.mem.wf

/-- ATTN is high exactly when some class is pending, not masked, and outranks every class in service: that is when a TAKE
would return a class, and every step keeps ATTN so (R168). The rank is the one that `TakeAndDone` spells. -/
def Obligations.AttnFollowsTake : Prop :=
  (∀ s t : State, s.AttnLaw → step s = .next t → t.AttnLaw) ∧
    ∀ a : Attention, a.offered.isSome = true ↔ ∃ k, k < 8 ∧ (a.cls k).pending = true ∧ (a.cls k).masked = false ∧
      ∀ j, j < 8 → (a.cls j).inService = true → a.rank k < a.rank j

/-- Every step keeps the laws of the lane: the waves run and confirmed is set only in SERVICE, the deadline runs exactly in
SERVICE, a vote is open only in SERVICE, a serve only in SERVICE, a join only in JOINING (R113, R121, R122, R129, R133). It
keeps the law of the lock table, whose records have the fields of their states (R72), and the laws of the serve record, whose
sets hold VITAL pages and whose slots hold pages of the final set (R134). -/
def Obligations.LaneLawKept : Prop :=
  (∀ s t : State, s.LaneLaw → step s = .next t → t.LaneLaw) ∧
    (∀ s t : State, s.LaneLaw → s.LockLaw → step s = .next t → t.LockLaw) ∧
    ∀ s t : State, s.LaneLaw → s.ServeLaw → step s = .next t → t.ServeLaw

/-- Every step keeps the queues and lists within their capacities, the poison list and the move queue without duplicates, the
saturating counts within their maxima, and the configuration within its limits (R12, R33, R155, R174, R180). -/
def Obligations.CapacitiesKept : Prop :=
  ∀ s t : State, s.CapacityLaw → s.CountLaw → s.ConfigLaw → step s = .next t → t.CapacityLaw ∧ t.CountLaw ∧ t.ConfigLaw

/-- Every step keeps the laws of the image: regions apart and in the page space, one frame for each mapped page, the same
written values below a move cursor in both frames, and each live digest the digest formula over its written values (R21,
R27, R36, R42). -/
def Obligations.ImageLawKept : Prop :=
  ∀ s t : State, s.mem.wf → s.LaneLaw → s.ImageLaw → step s = .next t → t.ImageLaw

/-- The state right after the application of power meets every law. -/
def Obligations.ResetMeetsLaws : Prop :=
  State.reset.mem.wf ∧ State.reset.AttnLaw ∧ State.reset.LaneLaw ∧ State.reset.LockLaw ∧ State.reset.ServeLaw ∧
    State.reset.CapacityLaw ∧ State.reset.CountLaw ∧ State.reset.ConfigLaw ∧ State.reset.ImageLaw

end
end

