-- ==== Sys2Proof/Laws/State.lean ====
section
/-! SUPPORT. What each update of the state leaves alone and what it sets: one lemma per field per update. -/

namespace Sys2Proof.Machine

variable (s : State)

@[simp] theorem State.setRegion_pending (id : Nat) (r : Option Region) : (s.setRegion id r).pending = s.pending := rfl
@[simp] theorem State.setRegion_time (id : Nat) (r : Option Region) : (s.setRegion id r).time = s.time := rfl
@[simp] theorem State.setRegion_sweep (id : Nat) (r : Option Region) : (s.setRegion id r).sweep = s.sweep := rfl
@[simp] theorem State.setRegion_freeCount (id : Nat) (r : Option Region) : (s.setRegion id r).freeCount = s.freeCount := rfl
@[simp] theorem State.setRegion_mem (id : Nat) (r : Option Region) : (s.setRegion id r).mem = s.mem := rfl
@[simp] theorem State.setRegion_poison (id : Nat) (r : Option Region) : (s.setRegion id r).poison = s.poison := rfl
@[simp] theorem State.setRegion_regions (id : Nat) (r : Option Region) : (s.setRegion id r).regions = tableSet s.regions id r := rfl
@[simp] theorem State.setRegion_pages (id : Nat) (r : Option Region) : (s.setRegion id r).pages = s.pages := rfl
@[simp] theorem State.setRegion_frames (id : Nat) (r : Option Region) : (s.setRegion id r).frames = s.frames := rfl
@[simp] theorem State.setRegion_moveQueue (id : Nat) (r : Option Region) : (s.setRegion id r).moveQueue = s.moveQueue := rfl
@[simp] theorem State.setRegion_moving (id : Nat) (r : Option Region) : (s.setRegion id r).moving = s.moving := rfl
@[simp] theorem State.setRegion_patrol (id : Nat) (r : Option Region) : (s.setRegion id r).patrol = s.patrol := rfl
@[simp] theorem State.setRegion_locks (id : Nat) (r : Option Region) : (s.setRegion id r).locks = s.locks := rfl
@[simp] theorem State.setRegion_advance (id : Nat) (r : Option Region) : (s.setRegion id r).advance = s.advance := rfl
@[simp] theorem State.setRegion_vote (id : Nat) (r : Option Region) : (s.setRegion id r).vote = s.vote := rfl
@[simp] theorem State.setRegion_peerU (id : Nat) (r : Option Region) : (s.setRegion id r).peerU = s.peerU := rfl
@[simp] theorem State.setRegion_peerV (id : Nat) (r : Option Region) : (s.setRegion id r).peerV = s.peerV := rfl
@[simp] theorem State.setRegion_lane (id : Nat) (r : Option Region) : (s.setRegion id r).lane = s.lane := rfl
@[simp] theorem State.setRegion_health (id : Nat) (r : Option Region) : (s.setRegion id r).health = s.health := rfl
@[simp] theorem State.setRegion_serve (id : Nat) (r : Option Region) : (s.setRegion id r).serve = s.serve := rfl
@[simp] theorem State.setRegion_join (id : Nat) (r : Option Region) : (s.setRegion id r).join = s.join := rfl
@[simp] theorem State.setRegion_linkU (id : Nat) (r : Option Region) : (s.setRegion id r).linkU = s.linkU := rfl
@[simp] theorem State.setRegion_linkV (id : Nat) (r : Option Region) : (s.setRegion id r).linkV = s.linkV := rfl
@[simp] theorem State.setRegion_attention (id : Nat) (r : Option Region) : (s.setRegion id r).attention = s.attention := rfl
@[simp] theorem State.setRegion_port (id : Nat) (r : Option Region) : (s.setRegion id r).port = s.port := rfl
@[simp] theorem State.setRegion_config (id : Nat) (r : Option Region) : (s.setRegion id r).config = s.config := rfl
@[simp] theorem State.setRegion_opening (id : Nat) (r : Option Region) : (s.setRegion id r).opening = s.opening := rfl
@[simp] theorem State.setRegion_run (id : Nat) (r : Option Region) : (s.setRegion id r).run = s.run := rfl
@[simp] theorem State.setRegion_restartDue (id : Nat) (r : Option Region) : (s.setRegion id r).restartDue = s.restartDue := rfl

@[simp] theorem State.setPage_pending (page : Nat) (e : PageEntry) : (s.setPage page e).pending = s.pending := rfl
@[simp] theorem State.setPage_time (page : Nat) (e : PageEntry) : (s.setPage page e).time = s.time := rfl
@[simp] theorem State.setPage_sweep (page : Nat) (e : PageEntry) : (s.setPage page e).sweep = s.sweep := rfl
@[simp] theorem State.setPage_freeCount (page : Nat) (e : PageEntry) : (s.setPage page e).freeCount = s.freeCount := rfl
@[simp] theorem State.setPage_mem (page : Nat) (e : PageEntry) : (s.setPage page e).mem = s.mem := rfl
@[simp] theorem State.setPage_poison (page : Nat) (e : PageEntry) : (s.setPage page e).poison = s.poison := rfl
@[simp] theorem State.setPage_regions (page : Nat) (e : PageEntry) : (s.setPage page e).regions = s.regions := rfl
@[simp] theorem State.setPage_pages (page : Nat) (e : PageEntry) : (s.setPage page e).pages = tableSet s.pages page e := rfl
@[simp] theorem State.setPage_frames (page : Nat) (e : PageEntry) : (s.setPage page e).frames = s.frames := rfl
@[simp] theorem State.setPage_moveQueue (page : Nat) (e : PageEntry) : (s.setPage page e).moveQueue = s.moveQueue := rfl
@[simp] theorem State.setPage_moving (page : Nat) (e : PageEntry) : (s.setPage page e).moving = s.moving := rfl
@[simp] theorem State.setPage_patrol (page : Nat) (e : PageEntry) : (s.setPage page e).patrol = s.patrol := rfl
@[simp] theorem State.setPage_locks (page : Nat) (e : PageEntry) : (s.setPage page e).locks = s.locks := rfl
@[simp] theorem State.setPage_advance (page : Nat) (e : PageEntry) : (s.setPage page e).advance = s.advance := rfl
@[simp] theorem State.setPage_vote (page : Nat) (e : PageEntry) : (s.setPage page e).vote = s.vote := rfl
@[simp] theorem State.setPage_peerU (page : Nat) (e : PageEntry) : (s.setPage page e).peerU = s.peerU := rfl
@[simp] theorem State.setPage_peerV (page : Nat) (e : PageEntry) : (s.setPage page e).peerV = s.peerV := rfl
@[simp] theorem State.setPage_lane (page : Nat) (e : PageEntry) : (s.setPage page e).lane = s.lane := rfl
@[simp] theorem State.setPage_health (page : Nat) (e : PageEntry) : (s.setPage page e).health = s.health := rfl
@[simp] theorem State.setPage_serve (page : Nat) (e : PageEntry) : (s.setPage page e).serve = s.serve := rfl
@[simp] theorem State.setPage_join (page : Nat) (e : PageEntry) : (s.setPage page e).join = s.join := rfl
@[simp] theorem State.setPage_linkU (page : Nat) (e : PageEntry) : (s.setPage page e).linkU = s.linkU := rfl
@[simp] theorem State.setPage_linkV (page : Nat) (e : PageEntry) : (s.setPage page e).linkV = s.linkV := rfl
@[simp] theorem State.setPage_attention (page : Nat) (e : PageEntry) : (s.setPage page e).attention = s.attention := rfl
@[simp] theorem State.setPage_port (page : Nat) (e : PageEntry) : (s.setPage page e).port = s.port := rfl
@[simp] theorem State.setPage_config (page : Nat) (e : PageEntry) : (s.setPage page e).config = s.config := rfl
@[simp] theorem State.setPage_opening (page : Nat) (e : PageEntry) : (s.setPage page e).opening = s.opening := rfl
@[simp] theorem State.setPage_run (page : Nat) (e : PageEntry) : (s.setPage page e).run = s.run := rfl
@[simp] theorem State.setPage_restartDue (page : Nat) (e : PageEntry) : (s.setPage page e).restartDue = s.restartDue := rfl

@[simp] theorem State.setFrame_pending (k : Nat) (f : FrameRecord) : (s.setFrame k f).pending = s.pending := rfl
@[simp] theorem State.setFrame_time (k : Nat) (f : FrameRecord) : (s.setFrame k f).time = s.time := rfl
@[simp] theorem State.setFrame_sweep (k : Nat) (f : FrameRecord) : (s.setFrame k f).sweep = s.sweep := rfl
@[simp] theorem State.setFrame_freeCount (k : Nat) (f : FrameRecord) : (s.setFrame k f).freeCount = s.freeCount := rfl
@[simp] theorem State.setFrame_mem (k : Nat) (f : FrameRecord) : (s.setFrame k f).mem = s.mem := rfl
@[simp] theorem State.setFrame_poison (k : Nat) (f : FrameRecord) : (s.setFrame k f).poison = s.poison := rfl
@[simp] theorem State.setFrame_regions (k : Nat) (f : FrameRecord) : (s.setFrame k f).regions = s.regions := rfl
@[simp] theorem State.setFrame_pages (k : Nat) (f : FrameRecord) : (s.setFrame k f).pages = s.pages := rfl
@[simp] theorem State.setFrame_frames (k : Nat) (f : FrameRecord) : (s.setFrame k f).frames = tableSet s.frames k f := rfl
@[simp] theorem State.setFrame_moveQueue (k : Nat) (f : FrameRecord) : (s.setFrame k f).moveQueue = s.moveQueue := rfl
@[simp] theorem State.setFrame_moving (k : Nat) (f : FrameRecord) : (s.setFrame k f).moving = s.moving := rfl
@[simp] theorem State.setFrame_patrol (k : Nat) (f : FrameRecord) : (s.setFrame k f).patrol = s.patrol := rfl
@[simp] theorem State.setFrame_locks (k : Nat) (f : FrameRecord) : (s.setFrame k f).locks = s.locks := rfl
@[simp] theorem State.setFrame_advance (k : Nat) (f : FrameRecord) : (s.setFrame k f).advance = s.advance := rfl
@[simp] theorem State.setFrame_vote (k : Nat) (f : FrameRecord) : (s.setFrame k f).vote = s.vote := rfl
@[simp] theorem State.setFrame_peerU (k : Nat) (f : FrameRecord) : (s.setFrame k f).peerU = s.peerU := rfl
@[simp] theorem State.setFrame_peerV (k : Nat) (f : FrameRecord) : (s.setFrame k f).peerV = s.peerV := rfl
@[simp] theorem State.setFrame_lane (k : Nat) (f : FrameRecord) : (s.setFrame k f).lane = s.lane := rfl
@[simp] theorem State.setFrame_health (k : Nat) (f : FrameRecord) : (s.setFrame k f).health = s.health := rfl
@[simp] theorem State.setFrame_serve (k : Nat) (f : FrameRecord) : (s.setFrame k f).serve = s.serve := rfl
@[simp] theorem State.setFrame_join (k : Nat) (f : FrameRecord) : (s.setFrame k f).join = s.join := rfl
@[simp] theorem State.setFrame_linkU (k : Nat) (f : FrameRecord) : (s.setFrame k f).linkU = s.linkU := rfl
@[simp] theorem State.setFrame_linkV (k : Nat) (f : FrameRecord) : (s.setFrame k f).linkV = s.linkV := rfl
@[simp] theorem State.setFrame_attention (k : Nat) (f : FrameRecord) : (s.setFrame k f).attention = s.attention := rfl
@[simp] theorem State.setFrame_port (k : Nat) (f : FrameRecord) : (s.setFrame k f).port = s.port := rfl
@[simp] theorem State.setFrame_config (k : Nat) (f : FrameRecord) : (s.setFrame k f).config = s.config := rfl
@[simp] theorem State.setFrame_opening (k : Nat) (f : FrameRecord) : (s.setFrame k f).opening = s.opening := rfl
@[simp] theorem State.setFrame_run (k : Nat) (f : FrameRecord) : (s.setFrame k f).run = s.run := rfl
@[simp] theorem State.setFrame_restartDue (k : Nat) (f : FrameRecord) : (s.setFrame k f).restartDue = s.restartDue := rfl

@[simp] theorem State.setLock_pending (k : Nat) (r : LockRecord) : (s.setLock k r).pending = s.pending := rfl
@[simp] theorem State.setLock_time (k : Nat) (r : LockRecord) : (s.setLock k r).time = s.time := rfl
@[simp] theorem State.setLock_sweep (k : Nat) (r : LockRecord) : (s.setLock k r).sweep = s.sweep := rfl
@[simp] theorem State.setLock_freeCount (k : Nat) (r : LockRecord) : (s.setLock k r).freeCount = s.freeCount := rfl
@[simp] theorem State.setLock_mem (k : Nat) (r : LockRecord) : (s.setLock k r).mem = s.mem := rfl
@[simp] theorem State.setLock_poison (k : Nat) (r : LockRecord) : (s.setLock k r).poison = s.poison := rfl
@[simp] theorem State.setLock_regions (k : Nat) (r : LockRecord) : (s.setLock k r).regions = s.regions := rfl
@[simp] theorem State.setLock_pages (k : Nat) (r : LockRecord) : (s.setLock k r).pages = s.pages := rfl
@[simp] theorem State.setLock_frames (k : Nat) (r : LockRecord) : (s.setLock k r).frames = s.frames := rfl
@[simp] theorem State.setLock_moveQueue (k : Nat) (r : LockRecord) : (s.setLock k r).moveQueue = s.moveQueue := rfl
@[simp] theorem State.setLock_moving (k : Nat) (r : LockRecord) : (s.setLock k r).moving = s.moving := rfl
@[simp] theorem State.setLock_patrol (k : Nat) (r : LockRecord) : (s.setLock k r).patrol = s.patrol := rfl
@[simp] theorem State.setLock_locks (k : Nat) (r : LockRecord) : (s.setLock k r).locks = tableSet s.locks k r := rfl
@[simp] theorem State.setLock_advance (k : Nat) (r : LockRecord) : (s.setLock k r).advance = s.advance := rfl
@[simp] theorem State.setLock_vote (k : Nat) (r : LockRecord) : (s.setLock k r).vote = s.vote := rfl
@[simp] theorem State.setLock_peerU (k : Nat) (r : LockRecord) : (s.setLock k r).peerU = s.peerU := rfl
@[simp] theorem State.setLock_peerV (k : Nat) (r : LockRecord) : (s.setLock k r).peerV = s.peerV := rfl
@[simp] theorem State.setLock_lane (k : Nat) (r : LockRecord) : (s.setLock k r).lane = s.lane := rfl
@[simp] theorem State.setLock_health (k : Nat) (r : LockRecord) : (s.setLock k r).health = s.health := rfl
@[simp] theorem State.setLock_serve (k : Nat) (r : LockRecord) : (s.setLock k r).serve = s.serve := rfl
@[simp] theorem State.setLock_join (k : Nat) (r : LockRecord) : (s.setLock k r).join = s.join := rfl
@[simp] theorem State.setLock_linkU (k : Nat) (r : LockRecord) : (s.setLock k r).linkU = s.linkU := rfl
@[simp] theorem State.setLock_linkV (k : Nat) (r : LockRecord) : (s.setLock k r).linkV = s.linkV := rfl
@[simp] theorem State.setLock_attention (k : Nat) (r : LockRecord) : (s.setLock k r).attention = s.attention := rfl
@[simp] theorem State.setLock_port (k : Nat) (r : LockRecord) : (s.setLock k r).port = s.port := rfl
@[simp] theorem State.setLock_config (k : Nat) (r : LockRecord) : (s.setLock k r).config = s.config := rfl
@[simp] theorem State.setLock_opening (k : Nat) (r : LockRecord) : (s.setLock k r).opening = s.opening := rfl
@[simp] theorem State.setLock_run (k : Nat) (r : LockRecord) : (s.setLock k r).run = s.run := rfl
@[simp] theorem State.setLock_restartDue (k : Nat) (r : LockRecord) : (s.setLock k r).restartDue = s.restartDue := rfl

@[simp] theorem State.setCell_pending (frame offset : Nat) (c : Cell) : (s.setCell frame offset c).pending = s.pending := rfl
@[simp] theorem State.setCell_time (frame offset : Nat) (c : Cell) : (s.setCell frame offset c).time = s.time := rfl
@[simp] theorem State.setCell_sweep (frame offset : Nat) (c : Cell) : (s.setCell frame offset c).sweep = s.sweep := rfl
@[simp] theorem State.setCell_freeCount (frame offset : Nat) (c : Cell) : (s.setCell frame offset c).freeCount = s.freeCount := rfl
@[simp] theorem State.setCell_mem (frame offset : Nat) (c : Cell) : (s.setCell frame offset c).mem = s.mem.set (wordKey frame offset) c := rfl
@[simp] theorem State.setCell_poison (frame offset : Nat) (c : Cell) : (s.setCell frame offset c).poison = s.poison := rfl
@[simp] theorem State.setCell_regions (frame offset : Nat) (c : Cell) : (s.setCell frame offset c).regions = s.regions := rfl
@[simp] theorem State.setCell_pages (frame offset : Nat) (c : Cell) : (s.setCell frame offset c).pages = s.pages := rfl
@[simp] theorem State.setCell_frames (frame offset : Nat) (c : Cell) : (s.setCell frame offset c).frames = s.frames := rfl
@[simp] theorem State.setCell_moveQueue (frame offset : Nat) (c : Cell) : (s.setCell frame offset c).moveQueue = s.moveQueue := rfl
@[simp] theorem State.setCell_moving (frame offset : Nat) (c : Cell) : (s.setCell frame offset c).moving = s.moving := rfl
@[simp] theorem State.setCell_patrol (frame offset : Nat) (c : Cell) : (s.setCell frame offset c).patrol = s.patrol := rfl
@[simp] theorem State.setCell_locks (frame offset : Nat) (c : Cell) : (s.setCell frame offset c).locks = s.locks := rfl
@[simp] theorem State.setCell_advance (frame offset : Nat) (c : Cell) : (s.setCell frame offset c).advance = s.advance := rfl
@[simp] theorem State.setCell_vote (frame offset : Nat) (c : Cell) : (s.setCell frame offset c).vote = s.vote := rfl
@[simp] theorem State.setCell_peerU (frame offset : Nat) (c : Cell) : (s.setCell frame offset c).peerU = s.peerU := rfl
@[simp] theorem State.setCell_peerV (frame offset : Nat) (c : Cell) : (s.setCell frame offset c).peerV = s.peerV := rfl
@[simp] theorem State.setCell_lane (frame offset : Nat) (c : Cell) : (s.setCell frame offset c).lane = s.lane := rfl
@[simp] theorem State.setCell_health (frame offset : Nat) (c : Cell) : (s.setCell frame offset c).health = s.health := rfl
@[simp] theorem State.setCell_serve (frame offset : Nat) (c : Cell) : (s.setCell frame offset c).serve = s.serve := rfl
@[simp] theorem State.setCell_join (frame offset : Nat) (c : Cell) : (s.setCell frame offset c).join = s.join := rfl
@[simp] theorem State.setCell_linkU (frame offset : Nat) (c : Cell) : (s.setCell frame offset c).linkU = s.linkU := rfl
@[simp] theorem State.setCell_linkV (frame offset : Nat) (c : Cell) : (s.setCell frame offset c).linkV = s.linkV := rfl
@[simp] theorem State.setCell_attention (frame offset : Nat) (c : Cell) : (s.setCell frame offset c).attention = s.attention := rfl
@[simp] theorem State.setCell_port (frame offset : Nat) (c : Cell) : (s.setCell frame offset c).port = s.port := rfl
@[simp] theorem State.setCell_config (frame offset : Nat) (c : Cell) : (s.setCell frame offset c).config = s.config := rfl
@[simp] theorem State.setCell_opening (frame offset : Nat) (c : Cell) : (s.setCell frame offset c).opening = s.opening := rfl
@[simp] theorem State.setCell_run (frame offset : Nat) (c : Cell) : (s.setCell frame offset c).run = s.run := rfl
@[simp] theorem State.setCell_restartDue (frame offset : Nat) (c : Cell) : (s.setCell frame offset c).restartDue = s.restartDue := rfl

@[simp] theorem State.raise_pending (d : Detail) : (s.raise d).pending = s.pending := rfl
@[simp] theorem State.raise_time (d : Detail) : (s.raise d).time = s.time := rfl
@[simp] theorem State.raise_sweep (d : Detail) : (s.raise d).sweep = s.sweep := rfl
@[simp] theorem State.raise_freeCount (d : Detail) : (s.raise d).freeCount = s.freeCount := rfl
@[simp] theorem State.raise_mem (d : Detail) : (s.raise d).mem = s.mem := rfl
@[simp] theorem State.raise_poison (d : Detail) : (s.raise d).poison = s.poison := rfl
@[simp] theorem State.raise_regions (d : Detail) : (s.raise d).regions = s.regions := rfl
@[simp] theorem State.raise_pages (d : Detail) : (s.raise d).pages = s.pages := rfl
@[simp] theorem State.raise_frames (d : Detail) : (s.raise d).frames = s.frames := rfl
@[simp] theorem State.raise_moveQueue (d : Detail) : (s.raise d).moveQueue = s.moveQueue := rfl
@[simp] theorem State.raise_moving (d : Detail) : (s.raise d).moving = s.moving := rfl
@[simp] theorem State.raise_patrol (d : Detail) : (s.raise d).patrol = s.patrol := rfl
@[simp] theorem State.raise_locks (d : Detail) : (s.raise d).locks = s.locks := rfl
@[simp] theorem State.raise_advance (d : Detail) : (s.raise d).advance = s.advance := rfl
@[simp] theorem State.raise_vote (d : Detail) : (s.raise d).vote = s.vote := rfl
@[simp] theorem State.raise_peerU (d : Detail) : (s.raise d).peerU = s.peerU := rfl
@[simp] theorem State.raise_peerV (d : Detail) : (s.raise d).peerV = s.peerV := rfl
@[simp] theorem State.raise_lane (d : Detail) : (s.raise d).lane = s.lane := rfl
@[simp] theorem State.raise_health (d : Detail) : (s.raise d).health = s.health := rfl
@[simp] theorem State.raise_serve (d : Detail) : (s.raise d).serve = s.serve := rfl
@[simp] theorem State.raise_join (d : Detail) : (s.raise d).join = s.join := rfl
@[simp] theorem State.raise_linkU (d : Detail) : (s.raise d).linkU = s.linkU := rfl
@[simp] theorem State.raise_linkV (d : Detail) : (s.raise d).linkV = s.linkV := rfl
@[simp] theorem State.raise_attention (d : Detail) : (s.raise d).attention = s.attention.raise d := rfl
@[simp] theorem State.raise_port (d : Detail) : (s.raise d).port = s.port := rfl
@[simp] theorem State.raise_config (d : Detail) : (s.raise d).config = s.config := rfl
@[simp] theorem State.raise_opening (d : Detail) : (s.raise d).opening = s.opening := rfl
@[simp] theorem State.raise_run (d : Detail) : (s.raise d).run = s.run := rfl
@[simp] theorem State.raise_restartDue (d : Detail) : (s.raise d).restartDue = s.restartDue := rfl

@[simp] theorem State.passTo_pending (t : Nat) : (s.passTo t).pending = s.pending := rfl
@[simp] theorem State.passTo_time (t : Nat) : (s.passTo t).time = max s.time t := rfl
@[simp] theorem State.passTo_sweep (t : Nat) : (s.passTo t).sweep = s.sweep := rfl
@[simp] theorem State.passTo_freeCount (t : Nat) : (s.passTo t).freeCount = s.freeCount := rfl
@[simp] theorem State.passTo_mem (t : Nat) : (s.passTo t).mem = s.mem := rfl
@[simp] theorem State.passTo_poison (t : Nat) : (s.passTo t).poison = s.poison := rfl
@[simp] theorem State.passTo_regions (t : Nat) : (s.passTo t).regions = s.regions := rfl
@[simp] theorem State.passTo_pages (t : Nat) : (s.passTo t).pages = s.pages := rfl
@[simp] theorem State.passTo_frames (t : Nat) : (s.passTo t).frames = s.frames := rfl
@[simp] theorem State.passTo_moveQueue (t : Nat) : (s.passTo t).moveQueue = s.moveQueue := rfl
@[simp] theorem State.passTo_moving (t : Nat) : (s.passTo t).moving = s.moving := rfl
@[simp] theorem State.passTo_patrol (t : Nat) : (s.passTo t).patrol = s.patrol := rfl
@[simp] theorem State.passTo_locks (t : Nat) : (s.passTo t).locks = s.locks := rfl
@[simp] theorem State.passTo_advance (t : Nat) : (s.passTo t).advance = s.advance := rfl
@[simp] theorem State.passTo_vote (t : Nat) : (s.passTo t).vote = s.vote := rfl
@[simp] theorem State.passTo_peerU (t : Nat) : (s.passTo t).peerU = s.peerU := rfl
@[simp] theorem State.passTo_peerV (t : Nat) : (s.passTo t).peerV = s.peerV := rfl
@[simp] theorem State.passTo_lane (t : Nat) : (s.passTo t).lane = s.lane := rfl
@[simp] theorem State.passTo_health (t : Nat) : (s.passTo t).health = s.health := rfl
@[simp] theorem State.passTo_serve (t : Nat) : (s.passTo t).serve = s.serve := rfl
@[simp] theorem State.passTo_join (t : Nat) : (s.passTo t).join = s.join := rfl
@[simp] theorem State.passTo_linkU (t : Nat) : (s.passTo t).linkU = s.linkU := rfl
@[simp] theorem State.passTo_linkV (t : Nat) : (s.passTo t).linkV = s.linkV := rfl
@[simp] theorem State.passTo_attention (t : Nat) : (s.passTo t).attention = s.attention := rfl
@[simp] theorem State.passTo_port (t : Nat) : (s.passTo t).port = s.port := rfl
@[simp] theorem State.passTo_config (t : Nat) : (s.passTo t).config = s.config := rfl
@[simp] theorem State.passTo_opening (t : Nat) : (s.passTo t).opening = s.opening := rfl
@[simp] theorem State.passTo_run (t : Nat) : (s.passTo t).run = s.run := rfl
@[simp] theorem State.passTo_restartDue (t : Nat) : (s.passTo t).restartDue = s.restartDue := rfl

@[simp] theorem State.unqueue_pending (k : Nat) : (s.unqueue k).pending = s.pending := rfl
@[simp] theorem State.unqueue_time (k : Nat) : (s.unqueue k).time = s.time := rfl
@[simp] theorem State.unqueue_sweep (k : Nat) : (s.unqueue k).sweep = s.sweep := rfl
@[simp] theorem State.unqueue_freeCount (k : Nat) : (s.unqueue k).freeCount = s.freeCount := rfl
@[simp] theorem State.unqueue_mem (k : Nat) : (s.unqueue k).mem = s.mem := rfl
@[simp] theorem State.unqueue_poison (k : Nat) : (s.unqueue k).poison = s.poison := rfl
@[simp] theorem State.unqueue_regions (k : Nat) : (s.unqueue k).regions = s.regions := rfl
@[simp] theorem State.unqueue_pages (k : Nat) : (s.unqueue k).pages = s.pages := rfl
@[simp] theorem State.unqueue_frames (k : Nat) : (s.unqueue k).frames = s.frames := rfl
@[simp] theorem State.unqueue_moving (k : Nat) : (s.unqueue k).moving = s.moving := rfl
@[simp] theorem State.unqueue_patrol (k : Nat) : (s.unqueue k).patrol = s.patrol := rfl
@[simp] theorem State.unqueue_locks (k : Nat) : (s.unqueue k).locks = s.locks := rfl
@[simp] theorem State.unqueue_advance (k : Nat) : (s.unqueue k).advance = s.advance := rfl
@[simp] theorem State.unqueue_vote (k : Nat) : (s.unqueue k).vote = s.vote := rfl
@[simp] theorem State.unqueue_peerU (k : Nat) : (s.unqueue k).peerU = s.peerU := rfl
@[simp] theorem State.unqueue_peerV (k : Nat) : (s.unqueue k).peerV = s.peerV := rfl
@[simp] theorem State.unqueue_lane (k : Nat) : (s.unqueue k).lane = s.lane := rfl
@[simp] theorem State.unqueue_health (k : Nat) : (s.unqueue k).health = s.health := rfl
@[simp] theorem State.unqueue_serve (k : Nat) : (s.unqueue k).serve = s.serve := rfl
@[simp] theorem State.unqueue_join (k : Nat) : (s.unqueue k).join = s.join := rfl
@[simp] theorem State.unqueue_linkU (k : Nat) : (s.unqueue k).linkU = s.linkU := rfl
@[simp] theorem State.unqueue_linkV (k : Nat) : (s.unqueue k).linkV = s.linkV := rfl
@[simp] theorem State.unqueue_attention (k : Nat) : (s.unqueue k).attention = s.attention := rfl
@[simp] theorem State.unqueue_port (k : Nat) : (s.unqueue k).port = s.port := rfl
@[simp] theorem State.unqueue_config (k : Nat) : (s.unqueue k).config = s.config := rfl
@[simp] theorem State.unqueue_opening (k : Nat) : (s.unqueue k).opening = s.opening := rfl
@[simp] theorem State.unqueue_run (k : Nat) : (s.unqueue k).run = s.run := rfl
@[simp] theorem State.unqueue_restartDue (k : Nat) : (s.unqueue k).restartDue = s.restartDue := rfl

@[simp] theorem State.clearPoisonWord_pending (page offset : Nat) : (s.clearPoisonWord page offset).pending = s.pending := rfl
@[simp] theorem State.clearPoisonWord_time (page offset : Nat) : (s.clearPoisonWord page offset).time = s.time := rfl
@[simp] theorem State.clearPoisonWord_sweep (page offset : Nat) : (s.clearPoisonWord page offset).sweep = s.sweep := rfl
@[simp] theorem State.clearPoisonWord_freeCount (page offset : Nat) : (s.clearPoisonWord page offset).freeCount = s.freeCount := rfl
@[simp] theorem State.clearPoisonWord_mem (page offset : Nat) : (s.clearPoisonWord page offset).mem = s.mem := rfl
@[simp] theorem State.clearPoisonWord_regions (page offset : Nat) : (s.clearPoisonWord page offset).regions = s.regions := rfl
@[simp] theorem State.clearPoisonWord_pages (page offset : Nat) : (s.clearPoisonWord page offset).pages = s.pages := rfl
@[simp] theorem State.clearPoisonWord_frames (page offset : Nat) : (s.clearPoisonWord page offset).frames = s.frames := rfl
@[simp] theorem State.clearPoisonWord_moveQueue (page offset : Nat) : (s.clearPoisonWord page offset).moveQueue = s.moveQueue := rfl
@[simp] theorem State.clearPoisonWord_moving (page offset : Nat) : (s.clearPoisonWord page offset).moving = s.moving := rfl
@[simp] theorem State.clearPoisonWord_patrol (page offset : Nat) : (s.clearPoisonWord page offset).patrol = s.patrol := rfl
@[simp] theorem State.clearPoisonWord_locks (page offset : Nat) : (s.clearPoisonWord page offset).locks = s.locks := rfl
@[simp] theorem State.clearPoisonWord_advance (page offset : Nat) : (s.clearPoisonWord page offset).advance = s.advance := rfl
@[simp] theorem State.clearPoisonWord_vote (page offset : Nat) : (s.clearPoisonWord page offset).vote = s.vote := rfl
@[simp] theorem State.clearPoisonWord_peerU (page offset : Nat) : (s.clearPoisonWord page offset).peerU = s.peerU := rfl
@[simp] theorem State.clearPoisonWord_peerV (page offset : Nat) : (s.clearPoisonWord page offset).peerV = s.peerV := rfl
@[simp] theorem State.clearPoisonWord_lane (page offset : Nat) : (s.clearPoisonWord page offset).lane = s.lane := rfl
@[simp] theorem State.clearPoisonWord_health (page offset : Nat) : (s.clearPoisonWord page offset).health = s.health := rfl
@[simp] theorem State.clearPoisonWord_serve (page offset : Nat) : (s.clearPoisonWord page offset).serve = s.serve := rfl
@[simp] theorem State.clearPoisonWord_join (page offset : Nat) : (s.clearPoisonWord page offset).join = s.join := rfl
@[simp] theorem State.clearPoisonWord_linkU (page offset : Nat) : (s.clearPoisonWord page offset).linkU = s.linkU := rfl
@[simp] theorem State.clearPoisonWord_linkV (page offset : Nat) : (s.clearPoisonWord page offset).linkV = s.linkV := rfl
@[simp] theorem State.clearPoisonWord_attention (page offset : Nat) : (s.clearPoisonWord page offset).attention = s.attention := rfl
@[simp] theorem State.clearPoisonWord_port (page offset : Nat) : (s.clearPoisonWord page offset).port = s.port := rfl
@[simp] theorem State.clearPoisonWord_config (page offset : Nat) : (s.clearPoisonWord page offset).config = s.config := rfl
@[simp] theorem State.clearPoisonWord_opening (page offset : Nat) : (s.clearPoisonWord page offset).opening = s.opening := rfl
@[simp] theorem State.clearPoisonWord_run (page offset : Nat) : (s.clearPoisonWord page offset).run = s.run := rfl
@[simp] theorem State.clearPoisonWord_restartDue (page offset : Nat) : (s.clearPoisonWord page offset).restartDue = s.restartDue := rfl

@[simp] theorem State.clearPoisonPage_pending (page : Nat) : (s.clearPoisonPage page).pending = s.pending := rfl
@[simp] theorem State.clearPoisonPage_time (page : Nat) : (s.clearPoisonPage page).time = s.time := rfl
@[simp] theorem State.clearPoisonPage_sweep (page : Nat) : (s.clearPoisonPage page).sweep = s.sweep := rfl
@[simp] theorem State.clearPoisonPage_freeCount (page : Nat) : (s.clearPoisonPage page).freeCount = s.freeCount := rfl
@[simp] theorem State.clearPoisonPage_mem (page : Nat) : (s.clearPoisonPage page).mem = s.mem := rfl
@[simp] theorem State.clearPoisonPage_regions (page : Nat) : (s.clearPoisonPage page).regions = s.regions := rfl
@[simp] theorem State.clearPoisonPage_pages (page : Nat) : (s.clearPoisonPage page).pages = s.pages := rfl
@[simp] theorem State.clearPoisonPage_frames (page : Nat) : (s.clearPoisonPage page).frames = s.frames := rfl
@[simp] theorem State.clearPoisonPage_moveQueue (page : Nat) : (s.clearPoisonPage page).moveQueue = s.moveQueue := rfl
@[simp] theorem State.clearPoisonPage_moving (page : Nat) : (s.clearPoisonPage page).moving = s.moving := rfl
@[simp] theorem State.clearPoisonPage_patrol (page : Nat) : (s.clearPoisonPage page).patrol = s.patrol := rfl
@[simp] theorem State.clearPoisonPage_locks (page : Nat) : (s.clearPoisonPage page).locks = s.locks := rfl
@[simp] theorem State.clearPoisonPage_advance (page : Nat) : (s.clearPoisonPage page).advance = s.advance := rfl
@[simp] theorem State.clearPoisonPage_vote (page : Nat) : (s.clearPoisonPage page).vote = s.vote := rfl
@[simp] theorem State.clearPoisonPage_peerU (page : Nat) : (s.clearPoisonPage page).peerU = s.peerU := rfl
@[simp] theorem State.clearPoisonPage_peerV (page : Nat) : (s.clearPoisonPage page).peerV = s.peerV := rfl
@[simp] theorem State.clearPoisonPage_lane (page : Nat) : (s.clearPoisonPage page).lane = s.lane := rfl
@[simp] theorem State.clearPoisonPage_health (page : Nat) : (s.clearPoisonPage page).health = s.health := rfl
@[simp] theorem State.clearPoisonPage_serve (page : Nat) : (s.clearPoisonPage page).serve = s.serve := rfl
@[simp] theorem State.clearPoisonPage_join (page : Nat) : (s.clearPoisonPage page).join = s.join := rfl
@[simp] theorem State.clearPoisonPage_linkU (page : Nat) : (s.clearPoisonPage page).linkU = s.linkU := rfl
@[simp] theorem State.clearPoisonPage_linkV (page : Nat) : (s.clearPoisonPage page).linkV = s.linkV := rfl
@[simp] theorem State.clearPoisonPage_attention (page : Nat) : (s.clearPoisonPage page).attention = s.attention := rfl
@[simp] theorem State.clearPoisonPage_port (page : Nat) : (s.clearPoisonPage page).port = s.port := rfl
@[simp] theorem State.clearPoisonPage_config (page : Nat) : (s.clearPoisonPage page).config = s.config := rfl
@[simp] theorem State.clearPoisonPage_opening (page : Nat) : (s.clearPoisonPage page).opening = s.opening := rfl
@[simp] theorem State.clearPoisonPage_run (page : Nat) : (s.clearPoisonPage page).run = s.run := rfl
@[simp] theorem State.clearPoisonPage_restartDue (page : Nat) : (s.clearPoisonPage page).restartDue = s.restartDue := rfl

@[simp] theorem State.zeroFillFrame_pending (k : Nat) : (s.zeroFillFrame k).pending = s.pending := rfl
@[simp] theorem State.zeroFillFrame_time (k : Nat) : (s.zeroFillFrame k).time = s.time := rfl
@[simp] theorem State.zeroFillFrame_sweep (k : Nat) : (s.zeroFillFrame k).sweep = s.sweep := rfl
@[simp] theorem State.zeroFillFrame_freeCount (k : Nat) : (s.zeroFillFrame k).freeCount = s.freeCount := rfl
@[simp] theorem State.zeroFillFrame_mem (k : Nat) : (s.zeroFillFrame k).mem = s.mem.clear (k * 256) (k * 256 + 256) := rfl
@[simp] theorem State.zeroFillFrame_poison (k : Nat) : (s.zeroFillFrame k).poison = s.poison := rfl
@[simp] theorem State.zeroFillFrame_regions (k : Nat) : (s.zeroFillFrame k).regions = s.regions := rfl
@[simp] theorem State.zeroFillFrame_pages (k : Nat) : (s.zeroFillFrame k).pages = s.pages := rfl
@[simp] theorem State.zeroFillFrame_frames (k : Nat) : (s.zeroFillFrame k).frames = s.frames := rfl
@[simp] theorem State.zeroFillFrame_moveQueue (k : Nat) : (s.zeroFillFrame k).moveQueue = s.moveQueue := rfl
@[simp] theorem State.zeroFillFrame_moving (k : Nat) : (s.zeroFillFrame k).moving = s.moving := rfl
@[simp] theorem State.zeroFillFrame_patrol (k : Nat) : (s.zeroFillFrame k).patrol = s.patrol := rfl
@[simp] theorem State.zeroFillFrame_locks (k : Nat) : (s.zeroFillFrame k).locks = s.locks := rfl
@[simp] theorem State.zeroFillFrame_advance (k : Nat) : (s.zeroFillFrame k).advance = s.advance := rfl
@[simp] theorem State.zeroFillFrame_vote (k : Nat) : (s.zeroFillFrame k).vote = s.vote := rfl
@[simp] theorem State.zeroFillFrame_peerU (k : Nat) : (s.zeroFillFrame k).peerU = s.peerU := rfl
@[simp] theorem State.zeroFillFrame_peerV (k : Nat) : (s.zeroFillFrame k).peerV = s.peerV := rfl
@[simp] theorem State.zeroFillFrame_lane (k : Nat) : (s.zeroFillFrame k).lane = s.lane := rfl
@[simp] theorem State.zeroFillFrame_health (k : Nat) : (s.zeroFillFrame k).health = s.health := rfl
@[simp] theorem State.zeroFillFrame_serve (k : Nat) : (s.zeroFillFrame k).serve = s.serve := rfl
@[simp] theorem State.zeroFillFrame_join (k : Nat) : (s.zeroFillFrame k).join = s.join := rfl
@[simp] theorem State.zeroFillFrame_linkU (k : Nat) : (s.zeroFillFrame k).linkU = s.linkU := rfl
@[simp] theorem State.zeroFillFrame_linkV (k : Nat) : (s.zeroFillFrame k).linkV = s.linkV := rfl
@[simp] theorem State.zeroFillFrame_attention (k : Nat) : (s.zeroFillFrame k).attention = s.attention := rfl
@[simp] theorem State.zeroFillFrame_port (k : Nat) : (s.zeroFillFrame k).port = s.port := rfl
@[simp] theorem State.zeroFillFrame_config (k : Nat) : (s.zeroFillFrame k).config = s.config := rfl
@[simp] theorem State.zeroFillFrame_opening (k : Nat) : (s.zeroFillFrame k).opening = s.opening := rfl
@[simp] theorem State.zeroFillFrame_run (k : Nat) : (s.zeroFillFrame k).run = s.run := rfl
@[simp] theorem State.zeroFillFrame_restartDue (k : Nat) : (s.zeroFillFrame k).restartDue = s.restartDue := rfl

@[simp] theorem State.clearLocks_pending : (s.clearLocks).pending = s.pending := rfl
@[simp] theorem State.clearLocks_time : (s.clearLocks).time = s.time := rfl
@[simp] theorem State.clearLocks_sweep : (s.clearLocks).sweep = s.sweep := rfl
@[simp] theorem State.clearLocks_freeCount : (s.clearLocks).freeCount = s.freeCount := rfl
@[simp] theorem State.clearLocks_mem : (s.clearLocks).mem = s.mem := rfl
@[simp] theorem State.clearLocks_poison : (s.clearLocks).poison = s.poison := rfl
@[simp] theorem State.clearLocks_regions : (s.clearLocks).regions = s.regions := rfl
@[simp] theorem State.clearLocks_pages : (s.clearLocks).pages = s.pages := rfl
@[simp] theorem State.clearLocks_frames : (s.clearLocks).frames = s.frames := rfl
@[simp] theorem State.clearLocks_moveQueue : (s.clearLocks).moveQueue = s.moveQueue := rfl
@[simp] theorem State.clearLocks_moving : (s.clearLocks).moving = s.moving := rfl
@[simp] theorem State.clearLocks_patrol : (s.clearLocks).patrol = s.patrol := rfl
@[simp] theorem State.clearLocks_advance : (s.clearLocks).advance = s.advance := rfl
@[simp] theorem State.clearLocks_vote : (s.clearLocks).vote = s.vote := rfl
@[simp] theorem State.clearLocks_peerU : (s.clearLocks).peerU = s.peerU := rfl
@[simp] theorem State.clearLocks_peerV : (s.clearLocks).peerV = s.peerV := rfl
@[simp] theorem State.clearLocks_lane : (s.clearLocks).lane = s.lane := rfl
@[simp] theorem State.clearLocks_health : (s.clearLocks).health = s.health := rfl
@[simp] theorem State.clearLocks_serve : (s.clearLocks).serve = s.serve := rfl
@[simp] theorem State.clearLocks_join : (s.clearLocks).join = s.join := rfl
@[simp] theorem State.clearLocks_linkU : (s.clearLocks).linkU = s.linkU := rfl
@[simp] theorem State.clearLocks_linkV : (s.clearLocks).linkV = s.linkV := rfl
@[simp] theorem State.clearLocks_attention : (s.clearLocks).attention = s.attention := rfl
@[simp] theorem State.clearLocks_port : (s.clearLocks).port = s.port := rfl
@[simp] theorem State.clearLocks_config : (s.clearLocks).config = s.config := rfl
@[simp] theorem State.clearLocks_opening : (s.clearLocks).opening = s.opening := rfl
@[simp] theorem State.clearLocks_run : (s.clearLocks).run = s.run := rfl
@[simp] theorem State.clearLocks_restartDue : (s.clearLocks).restartDue = s.restartDue := rfl

@[simp] theorem State.startDeadline_pending : (s.startDeadline).pending = s.pending := rfl
@[simp] theorem State.startDeadline_time : (s.startDeadline).time = s.time := rfl
@[simp] theorem State.startDeadline_sweep : (s.startDeadline).sweep = s.sweep := rfl
@[simp] theorem State.startDeadline_freeCount : (s.startDeadline).freeCount = s.freeCount := rfl
@[simp] theorem State.startDeadline_mem : (s.startDeadline).mem = s.mem := rfl
@[simp] theorem State.startDeadline_poison : (s.startDeadline).poison = s.poison := rfl
@[simp] theorem State.startDeadline_regions : (s.startDeadline).regions = s.regions := rfl
@[simp] theorem State.startDeadline_pages : (s.startDeadline).pages = s.pages := rfl
@[simp] theorem State.startDeadline_frames : (s.startDeadline).frames = s.frames := rfl
@[simp] theorem State.startDeadline_moveQueue : (s.startDeadline).moveQueue = s.moveQueue := rfl
@[simp] theorem State.startDeadline_moving : (s.startDeadline).moving = s.moving := rfl
@[simp] theorem State.startDeadline_patrol : (s.startDeadline).patrol = s.patrol := rfl
@[simp] theorem State.startDeadline_locks : (s.startDeadline).locks = s.locks := rfl
@[simp] theorem State.startDeadline_advance : (s.startDeadline).advance = s.advance := rfl
@[simp] theorem State.startDeadline_vote : (s.startDeadline).vote = s.vote := rfl
@[simp] theorem State.startDeadline_peerU : (s.startDeadline).peerU = s.peerU := rfl
@[simp] theorem State.startDeadline_peerV : (s.startDeadline).peerV = s.peerV := rfl
@[simp] theorem State.startDeadline_health : (s.startDeadline).health = s.health := rfl
@[simp] theorem State.startDeadline_serve : (s.startDeadline).serve = s.serve := rfl
@[simp] theorem State.startDeadline_join : (s.startDeadline).join = s.join := rfl
@[simp] theorem State.startDeadline_linkU : (s.startDeadline).linkU = s.linkU := rfl
@[simp] theorem State.startDeadline_linkV : (s.startDeadline).linkV = s.linkV := rfl
@[simp] theorem State.startDeadline_attention : (s.startDeadline).attention = s.attention := rfl
@[simp] theorem State.startDeadline_port : (s.startDeadline).port = s.port := rfl
@[simp] theorem State.startDeadline_config : (s.startDeadline).config = s.config := rfl
@[simp] theorem State.startDeadline_opening : (s.startDeadline).opening = s.opening := rfl
@[simp] theorem State.startDeadline_run : (s.startDeadline).run = s.run := rfl
@[simp] theorem State.startDeadline_restartDue : (s.startDeadline).restartDue = s.restartDue := rfl

@[simp] theorem State.dropHeld_pending : (s.dropHeld).pending = s.pending := rfl
@[simp] theorem State.dropHeld_time : (s.dropHeld).time = s.time := rfl
@[simp] theorem State.dropHeld_sweep : (s.dropHeld).sweep = s.sweep := rfl
@[simp] theorem State.dropHeld_freeCount : (s.dropHeld).freeCount = s.freeCount := rfl
@[simp] theorem State.dropHeld_mem : (s.dropHeld).mem = s.mem := rfl
@[simp] theorem State.dropHeld_poison : (s.dropHeld).poison = s.poison := rfl
@[simp] theorem State.dropHeld_regions : (s.dropHeld).regions = s.regions := rfl
@[simp] theorem State.dropHeld_pages : (s.dropHeld).pages = s.pages := rfl
@[simp] theorem State.dropHeld_frames : (s.dropHeld).frames = s.frames := rfl
@[simp] theorem State.dropHeld_moveQueue : (s.dropHeld).moveQueue = s.moveQueue := rfl
@[simp] theorem State.dropHeld_moving : (s.dropHeld).moving = s.moving := rfl
@[simp] theorem State.dropHeld_patrol : (s.dropHeld).patrol = s.patrol := rfl
@[simp] theorem State.dropHeld_locks : (s.dropHeld).locks = s.locks := rfl
@[simp] theorem State.dropHeld_advance : (s.dropHeld).advance = s.advance := rfl
@[simp] theorem State.dropHeld_vote : (s.dropHeld).vote = s.vote := rfl
@[simp] theorem State.dropHeld_lane : (s.dropHeld).lane = s.lane := rfl
@[simp] theorem State.dropHeld_health : (s.dropHeld).health = s.health := rfl
@[simp] theorem State.dropHeld_serve : (s.dropHeld).serve = s.serve := rfl
@[simp] theorem State.dropHeld_join : (s.dropHeld).join = s.join := rfl
@[simp] theorem State.dropHeld_linkU : (s.dropHeld).linkU = s.linkU := rfl
@[simp] theorem State.dropHeld_linkV : (s.dropHeld).linkV = s.linkV := rfl
@[simp] theorem State.dropHeld_attention : (s.dropHeld).attention = s.attention := rfl
@[simp] theorem State.dropHeld_port : (s.dropHeld).port = s.port := rfl
@[simp] theorem State.dropHeld_config : (s.dropHeld).config = s.config := rfl
@[simp] theorem State.dropHeld_opening : (s.dropHeld).opening = s.opening := rfl
@[simp] theorem State.dropHeld_run : (s.dropHeld).run = s.run := rfl
@[simp] theorem State.dropHeld_restartDue : (s.dropHeld).restartDue = s.restartDue := rfl

@[simp] theorem State.markDirty_pending (page : Nat) : (s.markDirty page).pending = s.pending := rfl
@[simp] theorem State.markDirty_time (page : Nat) : (s.markDirty page).time = s.time := rfl
@[simp] theorem State.markDirty_sweep (page : Nat) : (s.markDirty page).sweep = s.sweep := rfl
@[simp] theorem State.markDirty_freeCount (page : Nat) : (s.markDirty page).freeCount = s.freeCount := rfl
@[simp] theorem State.markDirty_mem (page : Nat) : (s.markDirty page).mem = s.mem := rfl
@[simp] theorem State.markDirty_poison (page : Nat) : (s.markDirty page).poison = s.poison := rfl
@[simp] theorem State.markDirty_regions (page : Nat) : (s.markDirty page).regions = s.regions := rfl
@[simp] theorem State.markDirty_pages (page : Nat) : (s.markDirty page).pages = s.pages := rfl
@[simp] theorem State.markDirty_frames (page : Nat) : (s.markDirty page).frames = s.frames := rfl
@[simp] theorem State.markDirty_moveQueue (page : Nat) : (s.markDirty page).moveQueue = s.moveQueue := rfl
@[simp] theorem State.markDirty_moving (page : Nat) : (s.markDirty page).moving = s.moving := rfl
@[simp] theorem State.markDirty_patrol (page : Nat) : (s.markDirty page).patrol = s.patrol := rfl
@[simp] theorem State.markDirty_locks (page : Nat) : (s.markDirty page).locks = s.locks := rfl
@[simp] theorem State.markDirty_advance (page : Nat) : (s.markDirty page).advance = s.advance := rfl
@[simp] theorem State.markDirty_vote (page : Nat) : (s.markDirty page).vote = s.vote := rfl
@[simp] theorem State.markDirty_peerU (page : Nat) : (s.markDirty page).peerU = s.peerU := rfl
@[simp] theorem State.markDirty_peerV (page : Nat) : (s.markDirty page).peerV = s.peerV := rfl
@[simp] theorem State.markDirty_lane (page : Nat) : (s.markDirty page).lane = s.lane := rfl
@[simp] theorem State.markDirty_health (page : Nat) : (s.markDirty page).health = s.health := rfl
@[simp] theorem State.markDirty_join (page : Nat) : (s.markDirty page).join = s.join := rfl
@[simp] theorem State.markDirty_linkU (page : Nat) : (s.markDirty page).linkU = s.linkU := rfl
@[simp] theorem State.markDirty_linkV (page : Nat) : (s.markDirty page).linkV = s.linkV := rfl
@[simp] theorem State.markDirty_attention (page : Nat) : (s.markDirty page).attention = s.attention := rfl
@[simp] theorem State.markDirty_port (page : Nat) : (s.markDirty page).port = s.port := rfl
@[simp] theorem State.markDirty_config (page : Nat) : (s.markDirty page).config = s.config := rfl
@[simp] theorem State.markDirty_opening (page : Nat) : (s.markDirty page).opening = s.opening := rfl
@[simp] theorem State.markDirty_run (page : Nat) : (s.markDirty page).run = s.run := rfl
@[simp] theorem State.markDirty_restartDue (page : Nat) : (s.markDirty page).restartDue = s.restartDue := rfl

@[simp] theorem State.takeImage_pending (ts : List LockTimer) : (s.takeImage ts).pending = s.pending := rfl
@[simp] theorem State.takeImage_time (ts : List LockTimer) : (s.takeImage ts).time = s.time := rfl
@[simp] theorem State.takeImage_sweep (ts : List LockTimer) : (s.takeImage ts).sweep = s.sweep := rfl
@[simp] theorem State.takeImage_freeCount (ts : List LockTimer) : (s.takeImage ts).freeCount = s.freeCount := rfl
@[simp] theorem State.takeImage_mem (ts : List LockTimer) : (s.takeImage ts).mem = s.mem := rfl
@[simp] theorem State.takeImage_poison (ts : List LockTimer) : (s.takeImage ts).poison = s.poison := rfl
@[simp] theorem State.takeImage_regions (ts : List LockTimer) : (s.takeImage ts).regions = s.regions := rfl
@[simp] theorem State.takeImage_pages (ts : List LockTimer) : (s.takeImage ts).pages = s.pages := rfl
@[simp] theorem State.takeImage_frames (ts : List LockTimer) : (s.takeImage ts).frames = s.frames := rfl
@[simp] theorem State.takeImage_moveQueue (ts : List LockTimer) : (s.takeImage ts).moveQueue = s.moveQueue := rfl
@[simp] theorem State.takeImage_moving (ts : List LockTimer) : (s.takeImage ts).moving = s.moving := rfl
@[simp] theorem State.takeImage_patrol (ts : List LockTimer) : (s.takeImage ts).patrol = s.patrol := rfl
@[simp] theorem State.takeImage_advance (ts : List LockTimer) : (s.takeImage ts).advance = s.advance := rfl
@[simp] theorem State.takeImage_vote (ts : List LockTimer) : (s.takeImage ts).vote = s.vote := rfl
@[simp] theorem State.takeImage_peerU (ts : List LockTimer) : (s.takeImage ts).peerU = s.peerU := rfl
@[simp] theorem State.takeImage_peerV (ts : List LockTimer) : (s.takeImage ts).peerV = s.peerV := rfl
@[simp] theorem State.takeImage_lane (ts : List LockTimer) : (s.takeImage ts).lane = s.lane := rfl
@[simp] theorem State.takeImage_health (ts : List LockTimer) : (s.takeImage ts).health = s.health := rfl
@[simp] theorem State.takeImage_serve (ts : List LockTimer) : (s.takeImage ts).serve = s.serve := rfl
@[simp] theorem State.takeImage_join (ts : List LockTimer) : (s.takeImage ts).join = s.join := rfl
@[simp] theorem State.takeImage_linkU (ts : List LockTimer) : (s.takeImage ts).linkU = s.linkU := rfl
@[simp] theorem State.takeImage_linkV (ts : List LockTimer) : (s.takeImage ts).linkV = s.linkV := rfl
@[simp] theorem State.takeImage_attention (ts : List LockTimer) : (s.takeImage ts).attention = s.attention := rfl
@[simp] theorem State.takeImage_port (ts : List LockTimer) : (s.takeImage ts).port = s.port := rfl
@[simp] theorem State.takeImage_config (ts : List LockTimer) : (s.takeImage ts).config = s.config := rfl
@[simp] theorem State.takeImage_opening (ts : List LockTimer) : (s.takeImage ts).opening = s.opening := rfl
@[simp] theorem State.takeImage_run (ts : List LockTimer) : (s.takeImage ts).run = s.run := rfl
@[simp] theorem State.takeImage_restartDue (ts : List LockTimer) : (s.takeImage ts).restartDue = s.restartDue := rfl

@[simp] theorem State.setPeer_pending (port : LinkPort) (p : PeerRecord) : (s.setPeer port p).pending = s.pending := by cases port <;> rfl
@[simp] theorem State.setPeer_time (port : LinkPort) (p : PeerRecord) : (s.setPeer port p).time = s.time := by cases port <;> rfl
@[simp] theorem State.setPeer_sweep (port : LinkPort) (p : PeerRecord) : (s.setPeer port p).sweep = s.sweep := by cases port <;> rfl
@[simp] theorem State.setPeer_freeCount (port : LinkPort) (p : PeerRecord) : (s.setPeer port p).freeCount = s.freeCount := by cases port <;> rfl
@[simp] theorem State.setPeer_mem (port : LinkPort) (p : PeerRecord) : (s.setPeer port p).mem = s.mem := by cases port <;> rfl
@[simp] theorem State.setPeer_poison (port : LinkPort) (p : PeerRecord) : (s.setPeer port p).poison = s.poison := by cases port <;> rfl
@[simp] theorem State.setPeer_regions (port : LinkPort) (p : PeerRecord) : (s.setPeer port p).regions = s.regions := by cases port <;> rfl
@[simp] theorem State.setPeer_pages (port : LinkPort) (p : PeerRecord) : (s.setPeer port p).pages = s.pages := by cases port <;> rfl
@[simp] theorem State.setPeer_frames (port : LinkPort) (p : PeerRecord) : (s.setPeer port p).frames = s.frames := by cases port <;> rfl
@[simp] theorem State.setPeer_moveQueue (port : LinkPort) (p : PeerRecord) : (s.setPeer port p).moveQueue = s.moveQueue := by cases port <;> rfl
@[simp] theorem State.setPeer_moving (port : LinkPort) (p : PeerRecord) : (s.setPeer port p).moving = s.moving := by cases port <;> rfl
@[simp] theorem State.setPeer_patrol (port : LinkPort) (p : PeerRecord) : (s.setPeer port p).patrol = s.patrol := by cases port <;> rfl
@[simp] theorem State.setPeer_locks (port : LinkPort) (p : PeerRecord) : (s.setPeer port p).locks = s.locks := by cases port <;> rfl
@[simp] theorem State.setPeer_advance (port : LinkPort) (p : PeerRecord) : (s.setPeer port p).advance = s.advance := by cases port <;> rfl
@[simp] theorem State.setPeer_vote (port : LinkPort) (p : PeerRecord) : (s.setPeer port p).vote = s.vote := by cases port <;> rfl
@[simp] theorem State.setPeer_lane (port : LinkPort) (p : PeerRecord) : (s.setPeer port p).lane = s.lane := by cases port <;> rfl
@[simp] theorem State.setPeer_health (port : LinkPort) (p : PeerRecord) : (s.setPeer port p).health = s.health := by cases port <;> rfl
@[simp] theorem State.setPeer_serve (port : LinkPort) (p : PeerRecord) : (s.setPeer port p).serve = s.serve := by cases port <;> rfl
@[simp] theorem State.setPeer_join (port : LinkPort) (p : PeerRecord) : (s.setPeer port p).join = s.join := by cases port <;> rfl
@[simp] theorem State.setPeer_linkU (port : LinkPort) (p : PeerRecord) : (s.setPeer port p).linkU = s.linkU := by cases port <;> rfl
@[simp] theorem State.setPeer_linkV (port : LinkPort) (p : PeerRecord) : (s.setPeer port p).linkV = s.linkV := by cases port <;> rfl
@[simp] theorem State.setPeer_attention (port : LinkPort) (p : PeerRecord) : (s.setPeer port p).attention = s.attention := by cases port <;> rfl
@[simp] theorem State.setPeer_port (port : LinkPort) (p : PeerRecord) : (s.setPeer port p).port = s.port := by cases port <;> rfl
@[simp] theorem State.setPeer_config (port : LinkPort) (p : PeerRecord) : (s.setPeer port p).config = s.config := by cases port <;> rfl
@[simp] theorem State.setPeer_opening (port : LinkPort) (p : PeerRecord) : (s.setPeer port p).opening = s.opening := by cases port <;> rfl
@[simp] theorem State.setPeer_run (port : LinkPort) (p : PeerRecord) : (s.setPeer port p).run = s.run := by cases port <;> rfl
@[simp] theorem State.setPeer_restartDue (port : LinkPort) (p : PeerRecord) : (s.setPeer port p).restartDue = s.restartDue := by cases port <;> rfl

@[simp] theorem State.setLink_pending (port : LinkPort) (l : Link) : (s.setLink port l).pending = s.pending := by cases port <;> rfl
@[simp] theorem State.setLink_time (port : LinkPort) (l : Link) : (s.setLink port l).time = s.time := by cases port <;> rfl
@[simp] theorem State.setLink_sweep (port : LinkPort) (l : Link) : (s.setLink port l).sweep = s.sweep := by cases port <;> rfl
@[simp] theorem State.setLink_freeCount (port : LinkPort) (l : Link) : (s.setLink port l).freeCount = s.freeCount := by cases port <;> rfl
@[simp] theorem State.setLink_mem (port : LinkPort) (l : Link) : (s.setLink port l).mem = s.mem := by cases port <;> rfl
@[simp] theorem State.setLink_poison (port : LinkPort) (l : Link) : (s.setLink port l).poison = s.poison := by cases port <;> rfl
@[simp] theorem State.setLink_regions (port : LinkPort) (l : Link) : (s.setLink port l).regions = s.regions := by cases port <;> rfl
@[simp] theorem State.setLink_pages (port : LinkPort) (l : Link) : (s.setLink port l).pages = s.pages := by cases port <;> rfl
@[simp] theorem State.setLink_frames (port : LinkPort) (l : Link) : (s.setLink port l).frames = s.frames := by cases port <;> rfl
@[simp] theorem State.setLink_moveQueue (port : LinkPort) (l : Link) : (s.setLink port l).moveQueue = s.moveQueue := by cases port <;> rfl
@[simp] theorem State.setLink_moving (port : LinkPort) (l : Link) : (s.setLink port l).moving = s.moving := by cases port <;> rfl
@[simp] theorem State.setLink_patrol (port : LinkPort) (l : Link) : (s.setLink port l).patrol = s.patrol := by cases port <;> rfl
@[simp] theorem State.setLink_locks (port : LinkPort) (l : Link) : (s.setLink port l).locks = s.locks := by cases port <;> rfl
@[simp] theorem State.setLink_advance (port : LinkPort) (l : Link) : (s.setLink port l).advance = s.advance := by cases port <;> rfl
@[simp] theorem State.setLink_vote (port : LinkPort) (l : Link) : (s.setLink port l).vote = s.vote := by cases port <;> rfl
@[simp] theorem State.setLink_peerU (port : LinkPort) (l : Link) : (s.setLink port l).peerU = s.peerU := by cases port <;> rfl
@[simp] theorem State.setLink_peerV (port : LinkPort) (l : Link) : (s.setLink port l).peerV = s.peerV := by cases port <;> rfl
@[simp] theorem State.setLink_lane (port : LinkPort) (l : Link) : (s.setLink port l).lane = s.lane := by cases port <;> rfl
@[simp] theorem State.setLink_health (port : LinkPort) (l : Link) : (s.setLink port l).health = s.health := by cases port <;> rfl
@[simp] theorem State.setLink_serve (port : LinkPort) (l : Link) : (s.setLink port l).serve = s.serve := by cases port <;> rfl
@[simp] theorem State.setLink_join (port : LinkPort) (l : Link) : (s.setLink port l).join = s.join := by cases port <;> rfl
@[simp] theorem State.setLink_attention (port : LinkPort) (l : Link) : (s.setLink port l).attention = s.attention := by cases port <;> rfl
@[simp] theorem State.setLink_port (port : LinkPort) (l : Link) : (s.setLink port l).port = s.port := by cases port <;> rfl
@[simp] theorem State.setLink_config (port : LinkPort) (l : Link) : (s.setLink port l).config = s.config := by cases port <;> rfl
@[simp] theorem State.setLink_opening (port : LinkPort) (l : Link) : (s.setLink port l).opening = s.opening := by cases port <;> rfl
@[simp] theorem State.setLink_run (port : LinkPort) (l : Link) : (s.setLink port l).run = s.run := by cases port <;> rfl
@[simp] theorem State.setLink_restartDue (port : LinkPort) (l : Link) : (s.setLink port l).restartDue = s.restartDue := by cases port <;> rfl

@[simp] theorem State.reply_pending (o : ReplyOutcome) (bs : List Byte) : (s.reply o bs).pending = s.pending := by unfold State.reply; split <;> rfl
@[simp] theorem State.reply_time (o : ReplyOutcome) (bs : List Byte) : (s.reply o bs).time = s.time := by unfold State.reply; split <;> rfl
@[simp] theorem State.reply_sweep (o : ReplyOutcome) (bs : List Byte) : (s.reply o bs).sweep = s.sweep := by unfold State.reply; split <;> rfl
@[simp] theorem State.reply_freeCount (o : ReplyOutcome) (bs : List Byte) : (s.reply o bs).freeCount = s.freeCount := by unfold State.reply; split <;> rfl
@[simp] theorem State.reply_mem (o : ReplyOutcome) (bs : List Byte) : (s.reply o bs).mem = s.mem := by unfold State.reply; split <;> rfl
@[simp] theorem State.reply_poison (o : ReplyOutcome) (bs : List Byte) : (s.reply o bs).poison = s.poison := by unfold State.reply; split <;> rfl
@[simp] theorem State.reply_regions (o : ReplyOutcome) (bs : List Byte) : (s.reply o bs).regions = s.regions := by unfold State.reply; split <;> rfl
@[simp] theorem State.reply_pages (o : ReplyOutcome) (bs : List Byte) : (s.reply o bs).pages = s.pages := by unfold State.reply; split <;> rfl
@[simp] theorem State.reply_frames (o : ReplyOutcome) (bs : List Byte) : (s.reply o bs).frames = s.frames := by unfold State.reply; split <;> rfl
@[simp] theorem State.reply_moveQueue (o : ReplyOutcome) (bs : List Byte) : (s.reply o bs).moveQueue = s.moveQueue := by unfold State.reply; split <;> rfl
@[simp] theorem State.reply_moving (o : ReplyOutcome) (bs : List Byte) : (s.reply o bs).moving = s.moving := by unfold State.reply; split <;> rfl
@[simp] theorem State.reply_patrol (o : ReplyOutcome) (bs : List Byte) : (s.reply o bs).patrol = s.patrol := by unfold State.reply; split <;> rfl
@[simp] theorem State.reply_locks (o : ReplyOutcome) (bs : List Byte) : (s.reply o bs).locks = s.locks := by unfold State.reply; split <;> rfl
@[simp] theorem State.reply_advance (o : ReplyOutcome) (bs : List Byte) : (s.reply o bs).advance = s.advance := by unfold State.reply; split <;> rfl
@[simp] theorem State.reply_vote (o : ReplyOutcome) (bs : List Byte) : (s.reply o bs).vote = s.vote := by unfold State.reply; split <;> rfl
@[simp] theorem State.reply_peerU (o : ReplyOutcome) (bs : List Byte) : (s.reply o bs).peerU = s.peerU := by unfold State.reply; split <;> rfl
@[simp] theorem State.reply_peerV (o : ReplyOutcome) (bs : List Byte) : (s.reply o bs).peerV = s.peerV := by unfold State.reply; split <;> rfl
@[simp] theorem State.reply_lane (o : ReplyOutcome) (bs : List Byte) : (s.reply o bs).lane = s.lane := by unfold State.reply; split <;> rfl
@[simp] theorem State.reply_health (o : ReplyOutcome) (bs : List Byte) : (s.reply o bs).health = s.health := by unfold State.reply; split <;> rfl
@[simp] theorem State.reply_serve (o : ReplyOutcome) (bs : List Byte) : (s.reply o bs).serve = s.serve := by unfold State.reply; split <;> rfl
@[simp] theorem State.reply_join (o : ReplyOutcome) (bs : List Byte) : (s.reply o bs).join = s.join := by unfold State.reply; split <;> rfl
@[simp] theorem State.reply_linkU (o : ReplyOutcome) (bs : List Byte) : (s.reply o bs).linkU = s.linkU := by unfold State.reply; split <;> rfl
@[simp] theorem State.reply_linkV (o : ReplyOutcome) (bs : List Byte) : (s.reply o bs).linkV = s.linkV := by unfold State.reply; split <;> rfl
@[simp] theorem State.reply_attention (o : ReplyOutcome) (bs : List Byte) : (s.reply o bs).attention = s.attention := by unfold State.reply; split <;> rfl
@[simp] theorem State.reply_config (o : ReplyOutcome) (bs : List Byte) : (s.reply o bs).config = s.config := by unfold State.reply; split <;> rfl
@[simp] theorem State.reply_opening (o : ReplyOutcome) (bs : List Byte) : (s.reply o bs).opening = s.opening := by unfold State.reply; split <;> rfl
@[simp] theorem State.reply_run (o : ReplyOutcome) (bs : List Byte) : (s.reply o bs).run = s.run := by unfold State.reply; split <;> rfl
@[simp] theorem State.reply_restartDue (o : ReplyOutcome) (bs : List Byte) : (s.reply o bs).restartDue = s.restartDue := by unfold State.reply; split <;> rfl

@[simp] theorem State.answerNow_pending (kind tag : Nat) (o : ReplyOutcome) : (s.answerNow kind tag o).pending = s.pending := rfl
@[simp] theorem State.answerNow_time (kind tag : Nat) (o : ReplyOutcome) : (s.answerNow kind tag o).time = s.time := rfl
@[simp] theorem State.answerNow_sweep (kind tag : Nat) (o : ReplyOutcome) : (s.answerNow kind tag o).sweep = s.sweep := rfl
@[simp] theorem State.answerNow_freeCount (kind tag : Nat) (o : ReplyOutcome) : (s.answerNow kind tag o).freeCount = s.freeCount := rfl
@[simp] theorem State.answerNow_mem (kind tag : Nat) (o : ReplyOutcome) : (s.answerNow kind tag o).mem = s.mem := rfl
@[simp] theorem State.answerNow_poison (kind tag : Nat) (o : ReplyOutcome) : (s.answerNow kind tag o).poison = s.poison := rfl
@[simp] theorem State.answerNow_regions (kind tag : Nat) (o : ReplyOutcome) : (s.answerNow kind tag o).regions = s.regions := rfl
@[simp] theorem State.answerNow_pages (kind tag : Nat) (o : ReplyOutcome) : (s.answerNow kind tag o).pages = s.pages := rfl
@[simp] theorem State.answerNow_frames (kind tag : Nat) (o : ReplyOutcome) : (s.answerNow kind tag o).frames = s.frames := rfl
@[simp] theorem State.answerNow_moveQueue (kind tag : Nat) (o : ReplyOutcome) : (s.answerNow kind tag o).moveQueue = s.moveQueue := rfl
@[simp] theorem State.answerNow_moving (kind tag : Nat) (o : ReplyOutcome) : (s.answerNow kind tag o).moving = s.moving := rfl
@[simp] theorem State.answerNow_patrol (kind tag : Nat) (o : ReplyOutcome) : (s.answerNow kind tag o).patrol = s.patrol := rfl
@[simp] theorem State.answerNow_locks (kind tag : Nat) (o : ReplyOutcome) : (s.answerNow kind tag o).locks = s.locks := rfl
@[simp] theorem State.answerNow_advance (kind tag : Nat) (o : ReplyOutcome) : (s.answerNow kind tag o).advance = s.advance := rfl
@[simp] theorem State.answerNow_vote (kind tag : Nat) (o : ReplyOutcome) : (s.answerNow kind tag o).vote = s.vote := rfl
@[simp] theorem State.answerNow_peerU (kind tag : Nat) (o : ReplyOutcome) : (s.answerNow kind tag o).peerU = s.peerU := rfl
@[simp] theorem State.answerNow_peerV (kind tag : Nat) (o : ReplyOutcome) : (s.answerNow kind tag o).peerV = s.peerV := rfl
@[simp] theorem State.answerNow_lane (kind tag : Nat) (o : ReplyOutcome) : (s.answerNow kind tag o).lane = s.lane := rfl
@[simp] theorem State.answerNow_health (kind tag : Nat) (o : ReplyOutcome) : (s.answerNow kind tag o).health = s.health := rfl
@[simp] theorem State.answerNow_serve (kind tag : Nat) (o : ReplyOutcome) : (s.answerNow kind tag o).serve = s.serve := rfl
@[simp] theorem State.answerNow_join (kind tag : Nat) (o : ReplyOutcome) : (s.answerNow kind tag o).join = s.join := rfl
@[simp] theorem State.answerNow_linkU (kind tag : Nat) (o : ReplyOutcome) : (s.answerNow kind tag o).linkU = s.linkU := rfl
@[simp] theorem State.answerNow_linkV (kind tag : Nat) (o : ReplyOutcome) : (s.answerNow kind tag o).linkV = s.linkV := rfl
@[simp] theorem State.answerNow_attention (kind tag : Nat) (o : ReplyOutcome) : (s.answerNow kind tag o).attention = s.attention := rfl
@[simp] theorem State.answerNow_config (kind tag : Nat) (o : ReplyOutcome) : (s.answerNow kind tag o).config = s.config := rfl
@[simp] theorem State.answerNow_opening (kind tag : Nat) (o : ReplyOutcome) : (s.answerNow kind tag o).opening = s.opening := rfl
@[simp] theorem State.answerNow_run (kind tag : Nat) (o : ReplyOutcome) : (s.answerNow kind tag o).run = s.run := rfl
@[simp] theorem State.answerNow_restartDue (kind tag : Nat) (o : ReplyOutcome) : (s.answerNow kind tag o).restartDue = s.restartDue := rfl

@[simp] theorem State.setHostRx_pending (rx : List Byte) : (s.setHostRx rx).pending = s.pending := rfl
@[simp] theorem State.setHostRx_time (rx : List Byte) : (s.setHostRx rx).time = s.time := rfl
@[simp] theorem State.setHostRx_sweep (rx : List Byte) : (s.setHostRx rx).sweep = s.sweep := rfl
@[simp] theorem State.setHostRx_freeCount (rx : List Byte) : (s.setHostRx rx).freeCount = s.freeCount := rfl
@[simp] theorem State.setHostRx_mem (rx : List Byte) : (s.setHostRx rx).mem = s.mem := rfl
@[simp] theorem State.setHostRx_poison (rx : List Byte) : (s.setHostRx rx).poison = s.poison := rfl
@[simp] theorem State.setHostRx_regions (rx : List Byte) : (s.setHostRx rx).regions = s.regions := rfl
@[simp] theorem State.setHostRx_pages (rx : List Byte) : (s.setHostRx rx).pages = s.pages := rfl
@[simp] theorem State.setHostRx_frames (rx : List Byte) : (s.setHostRx rx).frames = s.frames := rfl
@[simp] theorem State.setHostRx_moveQueue (rx : List Byte) : (s.setHostRx rx).moveQueue = s.moveQueue := rfl
@[simp] theorem State.setHostRx_moving (rx : List Byte) : (s.setHostRx rx).moving = s.moving := rfl
@[simp] theorem State.setHostRx_patrol (rx : List Byte) : (s.setHostRx rx).patrol = s.patrol := rfl
@[simp] theorem State.setHostRx_locks (rx : List Byte) : (s.setHostRx rx).locks = s.locks := rfl
@[simp] theorem State.setHostRx_advance (rx : List Byte) : (s.setHostRx rx).advance = s.advance := rfl
@[simp] theorem State.setHostRx_vote (rx : List Byte) : (s.setHostRx rx).vote = s.vote := rfl
@[simp] theorem State.setHostRx_peerU (rx : List Byte) : (s.setHostRx rx).peerU = s.peerU := rfl
@[simp] theorem State.setHostRx_peerV (rx : List Byte) : (s.setHostRx rx).peerV = s.peerV := rfl
@[simp] theorem State.setHostRx_lane (rx : List Byte) : (s.setHostRx rx).lane = s.lane := rfl
@[simp] theorem State.setHostRx_health (rx : List Byte) : (s.setHostRx rx).health = s.health := rfl
@[simp] theorem State.setHostRx_serve (rx : List Byte) : (s.setHostRx rx).serve = s.serve := rfl
@[simp] theorem State.setHostRx_join (rx : List Byte) : (s.setHostRx rx).join = s.join := rfl
@[simp] theorem State.setHostRx_linkU (rx : List Byte) : (s.setHostRx rx).linkU = s.linkU := rfl
@[simp] theorem State.setHostRx_linkV (rx : List Byte) : (s.setHostRx rx).linkV = s.linkV := rfl
@[simp] theorem State.setHostRx_attention (rx : List Byte) : (s.setHostRx rx).attention = s.attention := rfl
@[simp] theorem State.setHostRx_config (rx : List Byte) : (s.setHostRx rx).config = s.config := rfl
@[simp] theorem State.setHostRx_opening (rx : List Byte) : (s.setHostRx rx).opening = s.opening := rfl
@[simp] theorem State.setHostRx_run (rx : List Byte) : (s.setHostRx rx).run = s.run := rfl
@[simp] theorem State.setHostRx_restartDue (rx : List Byte) : (s.setHostRx rx).restartDue = s.restartDue := rfl

@[simp] theorem State.takeUp_pending : (s.takeUp).pending = s.pending := rfl
@[simp] theorem State.takeUp_time : (s.takeUp).time = s.time := rfl
@[simp] theorem State.takeUp_sweep : (s.takeUp).sweep = s.sweep := rfl
@[simp] theorem State.takeUp_freeCount : (s.takeUp).freeCount = s.freeCount := rfl
@[simp] theorem State.takeUp_mem : (s.takeUp).mem = s.mem := rfl
@[simp] theorem State.takeUp_poison : (s.takeUp).poison = s.poison := rfl
@[simp] theorem State.takeUp_regions : (s.takeUp).regions = s.regions := rfl
@[simp] theorem State.takeUp_pages : (s.takeUp).pages = s.pages := rfl
@[simp] theorem State.takeUp_frames : (s.takeUp).frames = s.frames := rfl
@[simp] theorem State.takeUp_moveQueue : (s.takeUp).moveQueue = s.moveQueue := rfl
@[simp] theorem State.takeUp_moving : (s.takeUp).moving = s.moving := rfl
@[simp] theorem State.takeUp_patrol : (s.takeUp).patrol = s.patrol := rfl
@[simp] theorem State.takeUp_locks : (s.takeUp).locks = s.locks := rfl
@[simp] theorem State.takeUp_advance : (s.takeUp).advance = s.advance := rfl
@[simp] theorem State.takeUp_vote : (s.takeUp).vote = s.vote := rfl
@[simp] theorem State.takeUp_peerU : (s.takeUp).peerU = s.peerU := rfl
@[simp] theorem State.takeUp_peerV : (s.takeUp).peerV = s.peerV := rfl
@[simp] theorem State.takeUp_lane : (s.takeUp).lane = s.lane := rfl
@[simp] theorem State.takeUp_health : (s.takeUp).health = s.health := rfl
@[simp] theorem State.takeUp_serve : (s.takeUp).serve = s.serve := rfl
@[simp] theorem State.takeUp_join : (s.takeUp).join = s.join := rfl
@[simp] theorem State.takeUp_linkU : (s.takeUp).linkU = s.linkU := rfl
@[simp] theorem State.takeUp_linkV : (s.takeUp).linkV = s.linkV := rfl
@[simp] theorem State.takeUp_attention : (s.takeUp).attention = s.attention := rfl
@[simp] theorem State.takeUp_config : (s.takeUp).config = s.config := rfl
@[simp] theorem State.takeUp_opening : (s.takeUp).opening = s.opening := rfl
@[simp] theorem State.takeUp_run : (s.takeUp).run = s.run := rfl
@[simp] theorem State.takeUp_restartDue : (s.takeUp).restartDue = s.restartDue := rfl

@[simp] theorem State.serve1_pending (kind tag : Nat) (c : Option Instr) : (s.serve1 kind tag c).pending = s.pending := rfl
@[simp] theorem State.serve1_time (kind tag : Nat) (c : Option Instr) : (s.serve1 kind tag c).time = s.time := rfl
@[simp] theorem State.serve1_sweep (kind tag : Nat) (c : Option Instr) : (s.serve1 kind tag c).sweep = s.sweep := rfl
@[simp] theorem State.serve1_freeCount (kind tag : Nat) (c : Option Instr) : (s.serve1 kind tag c).freeCount = s.freeCount := rfl
@[simp] theorem State.serve1_mem (kind tag : Nat) (c : Option Instr) : (s.serve1 kind tag c).mem = s.mem := rfl
@[simp] theorem State.serve1_poison (kind tag : Nat) (c : Option Instr) : (s.serve1 kind tag c).poison = s.poison := rfl
@[simp] theorem State.serve1_regions (kind tag : Nat) (c : Option Instr) : (s.serve1 kind tag c).regions = s.regions := rfl
@[simp] theorem State.serve1_pages (kind tag : Nat) (c : Option Instr) : (s.serve1 kind tag c).pages = s.pages := rfl
@[simp] theorem State.serve1_frames (kind tag : Nat) (c : Option Instr) : (s.serve1 kind tag c).frames = s.frames := rfl
@[simp] theorem State.serve1_moveQueue (kind tag : Nat) (c : Option Instr) : (s.serve1 kind tag c).moveQueue = s.moveQueue := rfl
@[simp] theorem State.serve1_moving (kind tag : Nat) (c : Option Instr) : (s.serve1 kind tag c).moving = s.moving := rfl
@[simp] theorem State.serve1_patrol (kind tag : Nat) (c : Option Instr) : (s.serve1 kind tag c).patrol = s.patrol := rfl
@[simp] theorem State.serve1_locks (kind tag : Nat) (c : Option Instr) : (s.serve1 kind tag c).locks = s.locks := rfl
@[simp] theorem State.serve1_advance (kind tag : Nat) (c : Option Instr) : (s.serve1 kind tag c).advance = s.advance := rfl
@[simp] theorem State.serve1_vote (kind tag : Nat) (c : Option Instr) : (s.serve1 kind tag c).vote = s.vote := rfl
@[simp] theorem State.serve1_peerU (kind tag : Nat) (c : Option Instr) : (s.serve1 kind tag c).peerU = s.peerU := rfl
@[simp] theorem State.serve1_peerV (kind tag : Nat) (c : Option Instr) : (s.serve1 kind tag c).peerV = s.peerV := rfl
@[simp] theorem State.serve1_lane (kind tag : Nat) (c : Option Instr) : (s.serve1 kind tag c).lane = s.lane := rfl
@[simp] theorem State.serve1_health (kind tag : Nat) (c : Option Instr) : (s.serve1 kind tag c).health = s.health := rfl
@[simp] theorem State.serve1_serve (kind tag : Nat) (c : Option Instr) : (s.serve1 kind tag c).serve = s.serve := rfl
@[simp] theorem State.serve1_join (kind tag : Nat) (c : Option Instr) : (s.serve1 kind tag c).join = s.join := rfl
@[simp] theorem State.serve1_linkU (kind tag : Nat) (c : Option Instr) : (s.serve1 kind tag c).linkU = s.linkU := rfl
@[simp] theorem State.serve1_linkV (kind tag : Nat) (c : Option Instr) : (s.serve1 kind tag c).linkV = s.linkV := rfl
@[simp] theorem State.serve1_attention (kind tag : Nat) (c : Option Instr) : (s.serve1 kind tag c).attention = s.attention := rfl
@[simp] theorem State.serve1_config (kind tag : Nat) (c : Option Instr) : (s.serve1 kind tag c).config = s.config := rfl
@[simp] theorem State.serve1_opening (kind tag : Nat) (c : Option Instr) : (s.serve1 kind tag c).opening = s.opening := rfl
@[simp] theorem State.serve1_run (kind tag : Nat) (c : Option Instr) : (s.serve1 kind tag c).run = s.run := rfl
@[simp] theorem State.serve1_restartDue (kind tag : Nat) (c : Option Instr) : (s.serve1 kind tag c).restartDue = s.restartDue := rfl

@[simp] theorem State.inHand_pending (kind tag : Nat) : (s.inHand kind tag).pending = s.pending := rfl
@[simp] theorem State.inHand_time (kind tag : Nat) : (s.inHand kind tag).time = s.time := rfl
@[simp] theorem State.inHand_sweep (kind tag : Nat) : (s.inHand kind tag).sweep = s.sweep := rfl
@[simp] theorem State.inHand_freeCount (kind tag : Nat) : (s.inHand kind tag).freeCount = s.freeCount := rfl
@[simp] theorem State.inHand_mem (kind tag : Nat) : (s.inHand kind tag).mem = s.mem := rfl
@[simp] theorem State.inHand_poison (kind tag : Nat) : (s.inHand kind tag).poison = s.poison := rfl
@[simp] theorem State.inHand_regions (kind tag : Nat) : (s.inHand kind tag).regions = s.regions := rfl
@[simp] theorem State.inHand_pages (kind tag : Nat) : (s.inHand kind tag).pages = s.pages := rfl
@[simp] theorem State.inHand_frames (kind tag : Nat) : (s.inHand kind tag).frames = s.frames := rfl
@[simp] theorem State.inHand_moveQueue (kind tag : Nat) : (s.inHand kind tag).moveQueue = s.moveQueue := rfl
@[simp] theorem State.inHand_moving (kind tag : Nat) : (s.inHand kind tag).moving = s.moving := rfl
@[simp] theorem State.inHand_patrol (kind tag : Nat) : (s.inHand kind tag).patrol = s.patrol := rfl
@[simp] theorem State.inHand_locks (kind tag : Nat) : (s.inHand kind tag).locks = s.locks := rfl
@[simp] theorem State.inHand_advance (kind tag : Nat) : (s.inHand kind tag).advance = s.advance := rfl
@[simp] theorem State.inHand_vote (kind tag : Nat) : (s.inHand kind tag).vote = s.vote := rfl
@[simp] theorem State.inHand_peerU (kind tag : Nat) : (s.inHand kind tag).peerU = s.peerU := rfl
@[simp] theorem State.inHand_peerV (kind tag : Nat) : (s.inHand kind tag).peerV = s.peerV := rfl
@[simp] theorem State.inHand_lane (kind tag : Nat) : (s.inHand kind tag).lane = s.lane := rfl
@[simp] theorem State.inHand_health (kind tag : Nat) : (s.inHand kind tag).health = s.health := rfl
@[simp] theorem State.inHand_serve (kind tag : Nat) : (s.inHand kind tag).serve = s.serve := rfl
@[simp] theorem State.inHand_join (kind tag : Nat) : (s.inHand kind tag).join = s.join := rfl
@[simp] theorem State.inHand_linkU (kind tag : Nat) : (s.inHand kind tag).linkU = s.linkU := rfl
@[simp] theorem State.inHand_linkV (kind tag : Nat) : (s.inHand kind tag).linkV = s.linkV := rfl
@[simp] theorem State.inHand_attention (kind tag : Nat) : (s.inHand kind tag).attention = s.attention := rfl
@[simp] theorem State.inHand_port (kind tag : Nat) : (s.inHand kind tag).port = s.port.inHand kind tag := rfl
@[simp] theorem State.inHand_config (kind tag : Nat) : (s.inHand kind tag).config = s.config := rfl
@[simp] theorem State.inHand_opening (kind tag : Nat) : (s.inHand kind tag).opening = s.opening := rfl
@[simp] theorem State.inHand_run (kind tag : Nat) : (s.inHand kind tag).run = s.run := rfl
@[simp] theorem State.inHand_restartDue (kind tag : Nat) : (s.inHand kind tag).restartDue = s.restartDue := rfl

@[simp] theorem State.answered_pending (kind tag : Nat) (o : ReplyOutcome) (bs : List Byte) : (s.answered kind tag o bs).pending = s.pending := rfl
@[simp] theorem State.answered_time (kind tag : Nat) (o : ReplyOutcome) (bs : List Byte) : (s.answered kind tag o bs).time = s.time := rfl
@[simp] theorem State.answered_sweep (kind tag : Nat) (o : ReplyOutcome) (bs : List Byte) : (s.answered kind tag o bs).sweep = s.sweep := rfl
@[simp] theorem State.answered_freeCount (kind tag : Nat) (o : ReplyOutcome) (bs : List Byte) : (s.answered kind tag o bs).freeCount = s.freeCount := rfl
@[simp] theorem State.answered_mem (kind tag : Nat) (o : ReplyOutcome) (bs : List Byte) : (s.answered kind tag o bs).mem = s.mem := rfl
@[simp] theorem State.answered_poison (kind tag : Nat) (o : ReplyOutcome) (bs : List Byte) : (s.answered kind tag o bs).poison = s.poison := rfl
@[simp] theorem State.answered_regions (kind tag : Nat) (o : ReplyOutcome) (bs : List Byte) : (s.answered kind tag o bs).regions = s.regions := rfl
@[simp] theorem State.answered_pages (kind tag : Nat) (o : ReplyOutcome) (bs : List Byte) : (s.answered kind tag o bs).pages = s.pages := rfl
@[simp] theorem State.answered_frames (kind tag : Nat) (o : ReplyOutcome) (bs : List Byte) : (s.answered kind tag o bs).frames = s.frames := rfl
@[simp] theorem State.answered_moveQueue (kind tag : Nat) (o : ReplyOutcome) (bs : List Byte) : (s.answered kind tag o bs).moveQueue = s.moveQueue := rfl
@[simp] theorem State.answered_moving (kind tag : Nat) (o : ReplyOutcome) (bs : List Byte) : (s.answered kind tag o bs).moving = s.moving := rfl
@[simp] theorem State.answered_patrol (kind tag : Nat) (o : ReplyOutcome) (bs : List Byte) : (s.answered kind tag o bs).patrol = s.patrol := rfl
@[simp] theorem State.answered_locks (kind tag : Nat) (o : ReplyOutcome) (bs : List Byte) : (s.answered kind tag o bs).locks = s.locks := rfl
@[simp] theorem State.answered_advance (kind tag : Nat) (o : ReplyOutcome) (bs : List Byte) : (s.answered kind tag o bs).advance = s.advance := rfl
@[simp] theorem State.answered_vote (kind tag : Nat) (o : ReplyOutcome) (bs : List Byte) : (s.answered kind tag o bs).vote = s.vote := rfl
@[simp] theorem State.answered_peerU (kind tag : Nat) (o : ReplyOutcome) (bs : List Byte) : (s.answered kind tag o bs).peerU = s.peerU := rfl
@[simp] theorem State.answered_peerV (kind tag : Nat) (o : ReplyOutcome) (bs : List Byte) : (s.answered kind tag o bs).peerV = s.peerV := rfl
@[simp] theorem State.answered_lane (kind tag : Nat) (o : ReplyOutcome) (bs : List Byte) : (s.answered kind tag o bs).lane = s.lane := rfl
@[simp] theorem State.answered_health (kind tag : Nat) (o : ReplyOutcome) (bs : List Byte) : (s.answered kind tag o bs).health = s.health := rfl
@[simp] theorem State.answered_serve (kind tag : Nat) (o : ReplyOutcome) (bs : List Byte) : (s.answered kind tag o bs).serve = s.serve := rfl
@[simp] theorem State.answered_join (kind tag : Nat) (o : ReplyOutcome) (bs : List Byte) : (s.answered kind tag o bs).join = s.join := rfl
@[simp] theorem State.answered_linkU (kind tag : Nat) (o : ReplyOutcome) (bs : List Byte) : (s.answered kind tag o bs).linkU = s.linkU := rfl
@[simp] theorem State.answered_linkV (kind tag : Nat) (o : ReplyOutcome) (bs : List Byte) : (s.answered kind tag o bs).linkV = s.linkV := rfl
@[simp] theorem State.answered_attention (kind tag : Nat) (o : ReplyOutcome) (bs : List Byte) : (s.answered kind tag o bs).attention = s.attention := rfl
@[simp] theorem State.answered_port (kind tag : Nat) (o : ReplyOutcome) (bs : List Byte) : (s.answered kind tag o bs).port = s.port.answered kind tag o bs := rfl
@[simp] theorem State.answered_config (kind tag : Nat) (o : ReplyOutcome) (bs : List Byte) : (s.answered kind tag o bs).config = s.config := rfl
@[simp] theorem State.answered_opening (kind tag : Nat) (o : ReplyOutcome) (bs : List Byte) : (s.answered kind tag o bs).opening = s.opening := rfl
@[simp] theorem State.answered_run (kind tag : Nat) (o : ReplyOutcome) (bs : List Byte) : (s.answered kind tag o bs).run = s.run := rfl
@[simp] theorem State.answered_restartDue (kind tag : Nat) (o : ReplyOutcome) (bs : List Byte) : (s.answered kind tag o bs).restartDue = s.restartDue := rfl

end Sys2Proof.Machine
end

