-- ==== Sys2Proof/Laws/Tables.lean ====
section
/-! SUPPORT. What a read of a table of the state gives after a write of it, and what the small page entries and sets are
after their updates. -/

namespace Sys2Proof.Machine

/-- The entry at `j` of a table after a write at an index inside it. -/
theorem tableGet_tableSet {α : Type} {n : Nat} (t : Vector α n) {i : Nat} (j : Nat) (x d : α) (h : i < n) :
    tableGet (tableSet t i x) j d = if i = j then x else tableGet t j d := by
  simp only [tableGet, tableSet, Vector.getElem?_setIfInBounds]
  split <;> simp_all

/-- A write at another index is not seen, inside the table or not. -/
theorem tableGet_tableSet_ne {α : Type} {n : Nat} (t : Vector α n) {i j : Nat} (x d : α) (h : i ≠ j) :
    tableGet (tableSet t i x) j d = tableGet t j d := by
  simp only [tableGet, tableSet, Vector.getElem?_setIfInBounds, if_neg h]

/-- Outside a table a read gives the default. -/
theorem tableGet_of_ge {α : Type} {n : Nat} (t : Vector α n) {i : Nat} (d : α) (h : n ≤ i) : tableGet t i d = d := by
  simp [tableGet, Vector.getElem?_eq_none h]

/-- Every entry of a constant table is its constant, or the default where they are the same. -/
theorem tableGet_replicate {α : Type} (n i : Nat) (x : α) : tableGet (Vector.replicate n x) i x = x := by
  simp only [tableGet, Vector.getElem?_replicate]
  split <;> rfl

theorem State.region_setRegion (s : State) {id : Nat} (j : Nat) (r : Option Region) (h : id < 16) :
    (s.setRegion id r).region j = if id = j then r else s.region j := tableGet_tableSet _ _ _ _ h
theorem State.page_setPage (s : State) {page : Nat} (q : Nat) (e : PageEntry) (h : page < 120) :
    (s.setPage page e).page q = if page = q then e else s.page q := tableGet_tableSet _ _ _ _ h
theorem State.frame_setFrame (s : State) {frame : Nat} (k : Nat) (f : FrameRecord) (h : frame < 128) :
    (s.setFrame frame f).frame k = if frame = k then f else s.frame k := tableGet_tableSet _ _ _ _ h
theorem State.lock_setLock (s : State) {index : Nat} (k : Nat) (r : LockRecord) (h : index < 48) :
    (s.setLock index r).lock k = if index = k then r else s.lock k := tableGet_tableSet _ _ _ _ h
theorem Attention.cls_update (a : Attention) {k : Nat} (j : Nat) (f : ClassRecord → ClassRecord) (h : k < 8) :
    (a.update k f).cls j = if k = j then f (a.cls k) else a.cls j := tableGet_tableSet _ _ _ _ h

/-- A page with an entry other than UNMAPPED lies in the page space. -/
theorem State.page_lt {s : State} {page : Nat} (h : s.page page ≠ .unmapped) : page < 120 :=
  Nat.lt_of_not_le fun hle => h (tableGet_of_ge _ _ hle)
/-- A defined region has an id of the table. -/
theorem State.region_lt {s : State} {id : Nat} {r : Region} (h : s.region id = some r) : id < 16 :=
  Nat.lt_of_not_le fun hle => by simp [State.region, tableGet_of_ge _ _ hle] at h

theorem State.peer_setPeer (s : State) (p q : LinkPort) (r : PeerRecord) :
    (s.setPeer p r).peer q = if p = q then r else s.peer q := by cases p <;> cases q <;> rfl
theorem State.link_setLink (s : State) (p q : LinkPort) (l : Link) :
    (s.setLink p l).link q = if p = q then l else s.link q := by cases p <;> cases q <;> rfl
@[simp] theorem State.setLink_link (s : State) (p : LinkPort) : s.setLink p (s.link p) = s := by cases p <;> rfl
@[simp] theorem State.setPeer_peer (s : State) (p : LinkPort) : s.setPeer p (s.peer p) = s := by cases p <;> rfl
@[simp] theorem State.setLink_setLink (s : State) (p : LinkPort) (l m : Link) : (s.setLink p l).setLink p m = s.setLink p m := by
  cases p <;> rfl

/-- Membership after the insertion of a member. -/
theorem mem_setInsert {x y : Nat} {xs : List Nat} : y ∈ setInsert x xs ↔ y = x ∨ y ∈ xs := by
  induction xs with
  | nil => simp [setInsert]
  | cons z zs ih =>
    simp only [setInsert]
    split
    · simp
    · split
      · simp_all
      · simp only [List.mem_cons, ih]
        tauto

/-- Membership after the removal of a member. -/
theorem mem_setErase {x y : Nat} {xs : List Nat} : y ∈ setErase x xs ↔ y ∈ xs ∧ y ≠ x := by simp [setErase]

/-- A set covered by another, as membership. -/
theorem setCovered_iff {xs ys : List Nat} : setCovered xs ys = true ↔ ∀ x ∈ xs, x ∈ ys := by simp [setCovered]

/-- The number of a class is below eight. -/
theorem FaultClass.num_lt (c : FaultClass) : c.num < 8 := by cases c <;> decide

/-- A settled entry is mapped, on the frame it was settled on (R38, R39). -/
theorem settledEntry_frameAt (f o : Nat) (p r : Bool) : (settledEntry f p r).frameAt o = some f := by
  cases p <;> cases r <;> rfl

end Sys2Proof.Machine
end

