-- ==== Sys2Proof/Laws/Operations.lean ====
section
/-! SUPPORT. What each shared operation can change, said once: `s.op … = { s with … }` names the fields it may set, from
its own result, so that every other field is as it was. -/

namespace Sys2Proof.Machine

/-! ### Attention -/

/-- A raise changes the attention controller alone (R167). -/
theorem State.raise_eq (s : State) (d : Detail) : s.raise d = { s with attention := s.attention.raise d } := rfl

/-- A controller that has judged has ATTN high exactly where a TAKE would return a class (R168). -/
theorem Attention.judge_law (a : Attention) : a.judge.attn = a.judge.offered.isSome := rfl

/-- A raise keeps the order (R167). -/
@[simp] theorem Attention.raise_rotating (a : Attention) (d : Detail) : (a.raise d).rotating = a.rotating := rfl
@[simp] theorem Attention.raise_lowest (a : Attention) (d : Detail) : (a.raise d).lowest = a.lowest := rfl

/-! ### Links -/

/-- A frame put on a control queue changes that link alone (R157). -/
theorem State.putControl_eq (s : State) (port : LinkPort) (b : LinkBody) :
    s.putControl port b = { s with linkU := (s.putControl port b).linkU, linkV := (s.putControl port b).linkV } := by
  cases port <;> rfl

/-- A frame put on a bulk queue changes that link alone (R158). -/
theorem State.putBulk_eq (s : State) (port : LinkPort) (b : LinkBody) :
    s.putBulk port b = { s with linkU := (s.putBulk port b).linkU, linkV := (s.putBulk port b).linkV } := by
  cases port <;> rfl

/-- On a busy line a frame waits at the newest end of its queue (R157, R158, R159). -/
theorem Link.putBulk_busy {l : Link} (now : Nat) (f : LinkFrame) (h : l.leaving ≠ none) :
    l.putBulk now f = { l with bulk := l.bulk ++ [f] } := by
  cases hl : l.leaving <;> simp_all [Link.putBulk, Link.arbitrate]
theorem Link.putControl_busy {l : Link} (now : Nat) (f : LinkFrame) (h : l.leaving ≠ none) :
    l.putControl now f = { l with control := controlPut l.control f } := by
  cases hl : l.leaving <;> simp_all [Link.putControl, Link.arbitrate]

/-! ### The lock table -/

/-- The check of a record of a lock image is the field rules of its state (R72, R90; log 22). -/
theorem State.timerFits_iff (s : State) (x : LockTimer) : s.timerFits x = true ↔ s.TimerLaw x := by
  rcases x with ⟨st, md, gt, pre, pen, rem, ov⟩
  have e : Config.addressCount = 30720 := rfl
  cases st <;> rcases md with _ | md <;> (try cases md) <;> cases gt <;> cases pen <;> cases ov <;>
    simp [State.timerFits, State.TimerLaw, State.ArmedLaw, State.goodGate, e] <;> (try omega) <;> (try tauto)

/-- A failed frame check changes that link and the attention controller (R161). -/
theorem State.checkFail_eq (s : State) (port : LinkPort) :
    s.checkFail port = { s with
      linkU := (s.checkFail port).linkU
      linkV := (s.checkFail port).linkV
      attention := (s.checkFail port).attention } := by cases port <;> rfl

/-- A control queue never grows past its four frames (R157). -/
theorem controlPut_length {q : List LinkFrame} {f : LinkFrame} (h : q.length ≤ 4) : (controlPut q f).length ≤ 4 := by
  unfold controlPut
  split
  · simp_all [Config.controlCapacity]
  · split
    · rename_i h1
      obtain ⟨x, hx, hd⟩ := List.any_eq_true.mp h1
      have := List.length_eraseP_of_mem hx hd
      have := List.length_pos_of_mem hx
      simp only [List.length_append, List.length_singleton]
      omega
    · exact h

/-! ### The lane -/

/-- The end of a serve changes the serve record, the peers, the links and the attention controller (R144). -/
theorem State.endServe_eq (s : State) (r : RestoreReason) (a : Option RestoreReason) :
    s.endServe r a = { s with
      serve := none
      peerU := (s.endServe r a).peerU
      peerV := (s.endServe r a).peerV
      linkU := (s.endServe r a).linkU
      linkV := (s.endServe r a).linkV
      attention := (s.endServe r a).attention } := by
  unfold State.endServe
  split
  · rename_i h
    cases s; simp_all
  · rename_i v h
    rcases v.receiver with _ | _ <;> cases a <;> dsimp only [] <;> split <;> rfl

/-- Leaving SERVICE changes the vote unit alone (R112). -/
theorem State.leaveService_eq (s : State) :
    s.leaveService = { s with
      vote := s.leaveService.vote
      peerU := s.leaveService.peerU
      peerV := s.leaveService.peerV } := by
  unfold State.leaveService
  split <;> rfl

/-- Entering STOPPED changes the lane, the vote unit, the serve and join records, the health generator, the links and the
attention controller (R125). -/
theorem State.enterStopped_eq (s : State) (c : StopCause) (id : Nat) :
    s.enterStopped c id = { s with
      lane := ⟨some .stopped, false, some c, none⟩
      health := ⟨none, false⟩
      serve := none
      join := none
      vote := (s.enterStopped c id).vote
      peerU := (s.enterStopped c id).peerU
      peerV := (s.enterStopped c id).peerV
      linkU := (s.enterStopped c id).linkU
      linkV := (s.enterStopped c id).linkV
      attention := (s.enterStopped c id).attention } := by
  unfold State.enterStopped
  simp only []
  rw [State.endServe_eq, State.leaveService_eq]
  split <;> rfl

/-- A stop request changes at most what entering STOPPED does (R124). -/
theorem State.stopRequest_eq (s : State) (c : StopCause) (id : Nat) :
    s.stopRequest c id = { s with
      lane := (s.stopRequest c id).lane
      health := (s.stopRequest c id).health
      serve := (s.stopRequest c id).serve
      join := (s.stopRequest c id).join
      vote := (s.stopRequest c id).vote
      peerU := (s.stopRequest c id).peerU
      peerV := (s.stopRequest c id).peerV
      linkU := (s.stopRequest c id).linkU
      linkV := (s.stopRequest c id).linkV
      attention := (s.stopRequest c id).attention } := by
  unfold State.stopRequest
  split
  · split
    · rfl
    · rw [State.enterStopped_eq]
  · split
    · rw [State.enterStopped_eq]
    · rfl
  all_goals rfl

/-! ### The store -/

/-- A LANE word put to the poison list changes the list or its page's mark (R10, R14). -/
theorem State.poisonWord_eq (s : State) (page offset : Nat) (src : StoreSource) :
    s.poisonWord page offset src = { s with
      poison := (s.poisonWord page offset src).poison
      pages := (s.poisonWord page offset src).pages } := by
  unfold State.poisonWord
  dsimp only []
  split
  · rfl
  · split <;> rfl

/-- What a word found DOUBLE can change (R8, R9, R10). -/
theorem State.uncorrectable_eq (s : State) (page offset : Nat) (src : StoreSource) :
    s.uncorrectable page offset src = { s with
      poison := (s.uncorrectable page offset src).poison
      pages := (s.uncorrectable page offset src).pages
      lane := (s.uncorrectable page offset src).lane
      health := (s.uncorrectable page offset src).health
      serve := (s.uncorrectable page offset src).serve
      join := (s.uncorrectable page offset src).join
      vote := (s.uncorrectable page offset src).vote
      peerU := (s.uncorrectable page offset src).peerU
      peerV := (s.uncorrectable page offset src).peerV
      linkU := (s.uncorrectable page offset src).linkU
      linkV := (s.uncorrectable page offset src).linkV
      attention := (s.uncorrectable page offset src).attention } := by
  unfold State.uncorrectable
  split
  · rfl
  · dsimp only []
    split
    · rw [State.stopRequest_eq]; rfl
    · rw [State.poisonWord_eq]; rfl

/-- A report to the map unit changes the move queue alone (R32). -/
theorem State.reportCorrection_eq (s : State) (frame count : Nat) :
    s.reportCorrection frame count = { s with moveQueue := (s.reportCorrection frame count).moveQueue } := by
  unfold State.reportCorrection
  split <;> rfl

/-- What a correcting read of a cell can change (R7). -/
theorem State.readCell_eq (s : State) (frame page offset : Nat) (src : StoreSource) :
    (s.readCell frame page offset src).1 = { s with
      mem := (s.readCell frame page offset src).1.mem
      frames := (s.readCell frame page offset src).1.frames
      moveQueue := (s.readCell frame page offset src).1.moveQueue
      poison := (s.readCell frame page offset src).1.poison
      pages := (s.readCell frame page offset src).1.pages
      lane := (s.readCell frame page offset src).1.lane
      health := (s.readCell frame page offset src).1.health
      serve := (s.readCell frame page offset src).1.serve
      join := (s.readCell frame page offset src).1.join
      vote := (s.readCell frame page offset src).1.vote
      peerU := (s.readCell frame page offset src).1.peerU
      peerV := (s.readCell frame page offset src).1.peerV
      linkU := (s.readCell frame page offset src).1.linkU
      linkV := (s.readCell frame page offset src).1.linkV
      attention := (s.readCell frame page offset src).1.attention } := by
  unfold State.readCell
  dsimp only []
  split
  · rfl
  · rw [State.reportCorrection_eq]; rfl
  · rw [State.uncorrectable_eq]

/-- What a correcting read by page and offset can change (R7, R36). -/
theorem State.readWord_eq (s : State) (page offset : Nat) (src : StoreSource) :
    (s.readWord page offset src).1 = { s with
      mem := (s.readWord page offset src).1.mem
      frames := (s.readWord page offset src).1.frames
      moveQueue := (s.readWord page offset src).1.moveQueue
      poison := (s.readWord page offset src).1.poison
      pages := (s.readWord page offset src).1.pages
      lane := (s.readWord page offset src).1.lane
      health := (s.readWord page offset src).1.health
      serve := (s.readWord page offset src).1.serve
      join := (s.readWord page offset src).1.join
      vote := (s.readWord page offset src).1.vote
      peerU := (s.readWord page offset src).1.peerU
      peerV := (s.readWord page offset src).1.peerV
      linkU := (s.readWord page offset src).1.linkU
      linkV := (s.readWord page offset src).1.linkV
      attention := (s.readWord page offset src).1.attention } := by
  unfold State.readWord
  split
  · rw [State.readCell_eq]
  · rfl

/-- A read that delivers a value stops nothing: it changes the word, its frame's count and the move queue (R7). -/
theorem State.readCell_some {s t : State} {frame page offset : Nat} {src : StoreSource} {w : Word}
    (h : s.readCell frame page offset src = (t, some w)) :
    t = { s with mem := t.mem, frames := t.frames, moveQueue := t.moveQueue } := by
  unfold State.readCell at h
  dsimp only [] at h
  split at h
  · cases h; rfl
  · cases h
    rw [State.reportCorrection_eq]; rfl
  · cases h

/-- The same of a read by page and offset (R7, R36). -/
theorem State.readWord_some {s t : State} {page offset : Nat} {src : StoreSource} {w : Word}
    (h : s.readWord page offset src = (t, some w)) :
    t = { s with mem := t.mem, frames := t.frames, moveQueue := t.moveQueue } := by
  unfold State.readWord at h
  split at h
  · exact State.readCell_some h
  · cases h

/-- The same of a run of reads that all deliver (R137, R141). -/
theorem State.readRun_some {page : Nat} {src : StoreSource} {n : Nat} :
    ∀ {s t : State} {offset : Nat} {ws : List Word}, s.readRun page src offset n = (t, some ws) →
      t = { s with mem := t.mem, frames := t.frames, moveQueue := t.moveQueue } ∧ ws.length = n := by
  induction n with
  | zero =>
    intro s t offset ws h
    cases h
    exact ⟨rfl, rfl⟩
  | succ n ih =>
    intro s t offset ws h
    simp only [State.readRun] at h
    split at h
    · cases h
    · rename_i s1 w h1
      split at h
      · cases h
      · rename_i s2 us h2
        cases h
        have e1 := State.readWord_some h1
        obtain ⟨e2, hl⟩ := ih h2
        refine ⟨?_, by simp [hl]⟩
        rw [e2, e1]

/-- A write by page and offset changes the memory, the live digest of its region and the pass under way (R5). -/
theorem State.writeWord_eq (s : State) (page offset : Nat) (v : Word) :
    s.writeWord page offset v = { s with
      mem := (s.writeWord page offset v).mem
      regions := (s.writeWord page offset v).regions
      patrol := (s.writeWord page offset v).patrol } := by
  unfold State.writeWord
  split
  · unfold State.handOn State.storeWord
    dsimp only []
    repeat' split
    all_goals rfl
  · rfl

/-- The same of a run of writes (R16, R149). -/
theorem State.writeRun_eq (page : Nat) (ws : List Word) :
    ∀ (s : State) (offset : Nat), s.writeRun page offset ws = { s with
      mem := (s.writeRun page offset ws).mem
      regions := (s.writeRun page offset ws).regions
      patrol := (s.writeRun page offset ws).patrol } := by
  induction ws with
  | nil => intro s offset; rfl
  | cons w ws ih =>
    intro s offset
    simp only [State.writeRun]
    rw [ih, State.writeWord_eq]

/-! ### The patrol -/

/-- A selection changes the patrol unit alone (R58). -/
theorem State.selectPass_eq (s : State) : s.selectPass = { s with patrol := s.selectPass.patrol } := by
  unfold State.selectPass
  split
  · rfl
  · split <;> rfl

/-- The early end of a pass changes the patrol unit alone (R68, R69). -/
theorem State.endPassOn_eq (s : State) (id : Nat) : s.endPassOn id = { s with patrol := (s.endPassOn id).patrol } := by
  unfold State.endPassOn
  split
  · split
    · rw [State.selectPass_eq]
    · rfl
  · rfl

/-! ### The map unit -/

/-- A frame freed changes the pool, and the attention controller where it was WORN (R29). -/
theorem State.freeFrame_eq (s : State) (frame page : Nat) :
    s.freeFrame frame page = { s with
      frames := (s.freeFrame frame page).frames
      attention := (s.freeFrame frame page).attention } := by
  unfold State.freeFrame
  dsimp only []
  split <;> rfl

/-- A move abandoned changes the pool, the page map, the engine and the attention controller (R39). -/
theorem State.abandonMove_eq (s : State) (page : Nat) :
    s.abandonMove page = { s with
      frames := (s.abandonMove page).frames
      pages := (s.abandonMove page).pages
      moving := (s.abandonMove page).moving
      attention := (s.abandonMove page).attention } := by
  unfold State.abandonMove
  split
  · rw [State.freeFrame_eq]; rfl
  all_goals rfl

/-- The steps of the records at a close change the lock table and the attention controller (R81). -/
theorem State.stepLock_eq (values : List (Nat × Word)) (s : State) (k : Nat) :
    State.stepLock values s k = { s with
      locks := (State.stepLock values s k).locks
      attention := (State.stepLock values s k).attention } := by
  unfold State.stepLock
  dsimp only []
  split <;> rfl

/-! ### The vote unit and the transfer engine -/

/-- The miss counting of a peer changes the peer records and the attention controller (R106). -/
theorem State.countMiss_eq (s : State) (port : LinkPort) :
    s.countMiss port = { s with
      peerU := (s.countMiss port).peerU
      peerV := (s.countMiss port).peerV
      attention := (s.countMiss port).attention } := by
  unfold State.countMiss
  dsimp only []
  cases port <;> (split <;> first | rfl | (split <;> rfl))

/-- A verdict handed to the transfer engine changes what the end of a serve does (R140, R143). -/
theorem State.verdictHanded_eq (s : State) (agreed : Bool) (n : Nat) :
    s.verdictHanded agreed n = { s with
      serve := (s.verdictHanded agreed n).serve
      peerU := (s.verdictHanded agreed n).peerU
      peerV := (s.verdictHanded agreed n).peerV
      linkU := (s.verdictHanded agreed n).linkU
      linkV := (s.verdictHanded agreed n).linkV
      attention := (s.verdictHanded agreed n).attention } := by
  unfold State.verdictHanded
  split
  · rfl
  · dsimp only []
    split
    · rw [State.endServe_eq]
    · rfl

/-- What a verdict can change (R109, R110, R111). -/
theorem State.applyVerdict_eq (s : State) (v : VerdictRecord) :
    s.applyVerdict v = { s with
      lane := (s.applyVerdict v).lane
      health := (s.applyVerdict v).health
      serve := (s.applyVerdict v).serve
      join := (s.applyVerdict v).join
      vote := (s.applyVerdict v).vote
      peerU := (s.applyVerdict v).peerU
      peerV := (s.applyVerdict v).peerV
      linkU := (s.applyVerdict v).linkU
      linkV := (s.applyVerdict v).linkV
      attention := (s.applyVerdict v).attention } := by
  unfold State.applyVerdict
  split
  · dsimp only []
    rw [State.verdictHanded_eq]
    unfold State.confirm
    split <;> rfl
  · rw [State.verdictHanded_eq]; rfl
  all_goals rw [State.stopRequest_eq]

/-- What a decision can change (R105). -/
theorem State.decideVote_eq (s : State) :
    s.decideVote = { s with
      lane := s.decideVote.lane
      health := s.decideVote.health
      serve := s.decideVote.serve
      join := s.decideVote.join
      vote := s.decideVote.vote
      peerU := s.decideVote.peerU
      peerV := s.decideVote.peerV
      linkU := s.decideVote.linkU
      linkV := s.decideVote.linkV
      attention := s.decideVote.attention } := by
  unfold State.decideVote
  dsimp only []
  rw [State.applyVerdict_eq, State.countMiss_eq, State.countMiss_eq]
  rfl

/-- An attempt that fails changes the join record, the links, the attention controller, and what a stop changes (R153). -/
theorem State.failAttempt_eq (s : State) (r : RestoreReason) (a : Option RestoreReason) :
    s.failAttempt r a = { s with
      lane := (s.failAttempt r a).lane
      health := (s.failAttempt r a).health
      serve := (s.failAttempt r a).serve
      join := (s.failAttempt r a).join
      vote := (s.failAttempt r a).vote
      peerU := (s.failAttempt r a).peerU
      peerV := (s.failAttempt r a).peerV
      linkU := (s.failAttempt r a).linkU
      linkV := (s.failAttempt r a).linkV
      attention := (s.failAttempt r a).attention } := by
  unfold State.failAttempt
  split
  · rfl
  · split
    · rfl
    · dsimp only []
      split
      · rw [State.stopRequest_eq]
        cases a <;> first | rfl | (dsimp only []; rw [State.putControl_eq]; rfl)
      · split
        · unfold State.startAttempt
          rw [State.putControl_eq]
          cases a <;> first | rfl | (dsimp only []; rw [State.putControl_eq]; rfl)
        · cases a <;> first | rfl | (dsimp only []; rw [State.putControl_eq]; rfl)

/-! ### The patrol through an OPEN -/

/-- A region that an OPEN has settled is eligible as the state after it has it (R57, R69). -/
theorem State.readyAt_of_le (s t : State) {k j : Nat} (h : j ≤ k) : s.readyAt t k j = t.eligible j := by
  cases hj : t.region j <;> simp [State.readyAt, State.eligible, h, hj]

/-- A region that an OPEN leaves alone leaves the patrol alone (R69). -/
theorem State.settledAt_of_undefined (s t : State) (p : Patrol) {id : Nat} (h : s.region id = none) :
    s.settledAt t p id = p := by
  unfold State.settledAt
  rw [h]

/-! ### The port -/

/-- A reply changes the port alone (R178). -/
theorem State.reply_eq (s : State) (o : ReplyOutcome) (bs : List Byte) :
    s.reply o bs = { s with port := (s.reply o bs).port } := by
  unfold State.reply
  split <;> rfl

/-- The arrival of a request's frame changes the port, and the attention controller where it is turned away (R175, R176,
R177). -/
theorem State.arrive_eq (s : State) (c : Instr) :
    s.arrive c = { s with port := (s.arrive c).port, attention := (s.arrive c).attention } := by
  unfold State.arrive
  split
  · rfl
  · split
    · unfold State.badFrame
      split <;> rfl
    · unfold State.judge
      split
      · rfl
      · unfold State.judgeIdle
        repeat' split
        all_goals first
          | rfl
          | (unfold State.refuseCode; split <;> (rw [State.reply_eq]; rfl))

end Sys2Proof.Machine
end

