-- ==== Sys2Proof/Laws/Links.lean ====
section
/-! SUPPORT. What a run of reads, a send step and the end of a frame on a link can change, said once, and the port after a
warm restart. -/

namespace Sys2Proof.Machine

/-! ### Send steps -/

/-- `t` is `s` but for the fields that a correcting read (R7, R8), a send step (R137, R142) or a link's transmit side (R158,
R159) can set. -/
def State.SentFrom (s t : State) : Prop := t = { s with
  mem := t.mem
  frames := t.frames
  moveQueue := t.moveQueue
  poison := t.poison
  pages := t.pages
  lane := t.lane
  health := t.health
  serve := t.serve
  join := t.join
  vote := t.vote
  peerU := t.peerU
  peerV := t.peerV
  linkU := t.linkU
  linkV := t.linkV
  attention := t.attention }

theorem State.SentFrom.trans {s t u : State} (h1 : s.SentFrom t) (h2 : t.SentFrom u) : s.SentFrom u := by
  cases s; cases t; cases u
  simp only [State.SentFrom, State.mk.injEq] at *
  simp_all

theorem State.sentFrom_refl (s : State) : s.SentFrom s := rfl
theorem State.sentFrom_serve (s : State) (v : Option Serve) : s.SentFrom { s with serve := v } := rfl
theorem State.sentFrom_setLink (s : State) (port : LinkPort) (l : Link) : s.SentFrom (s.setLink port l) := by cases port <;> rfl
theorem State.sentFrom_putBulk (s : State) (port : LinkPort) (b : LinkBody) : s.SentFrom (s.putBulk port b) := by
  cases port <;> rfl

/-- What a correcting read by page and offset can change (R7, R36). -/
theorem State.sentFrom_readWord (s : State) (page offset : Nat) (src : StoreSource) :
    s.SentFrom (s.readWord page offset src).1 := State.readWord_eq s page offset src

/-- What a run of correcting reads can change (R137, R141). -/
theorem State.sentFrom_readRun (page : Nat) (src : StoreSource) (n : Nat) : ∀ (s : State) (offset : Nat),
    s.SentFrom (s.readRun page src offset n).1 := by
  induction n with
  | zero => intro s offset; rfl
  | succ n ih =>
    intro s offset
    have h := s.sentFrom_readWord page offset src
    simp only [State.readRun]
    split
    · rename_i s1 h1
      rwa [h1] at h
    · rename_i s1 w h1
      rw [h1] at h
      have h2 := h.trans (ih s1 (offset + 1))
      split <;> rename_i h3 <;> rwa [h3] at h2

/-- What a send step in BULK can change (R137). -/
theorem State.sentFrom_sendStep (s : State) : s.SentFrom s.sendStep := by
  unfold State.sendStep
  split
  · rfl
  · split
    · rename_i v1 x _ _ _ _
      have h := (s.sentFrom_serve (some v1)).trans
        (State.sentFrom_readRun x.page .send s.config.burst { s with serve := some v1 } x.next)
      split <;> rename_i h1 <;> rw [h1] at h
      · exact h.trans ((State.sentFrom_serve _ _).trans (State.sentFrom_putBulk _ _ _))
      · exact h
    · rfl

/-- What a send step in FINAL can change (R142). -/
theorem State.sentFrom_finalSendStep (s : State) : s.SentFrom s.finalSendStep := by
  unfold State.finalSendStep
  split
  · rfl
  · split
    · rename_i v1 x _ _ _
      have h := (s.sentFrom_serve (some v1)).trans
        (State.sentFrom_readRun x.page .send s.config.burst { s with serve := some v1 } x.next)
      dsimp only []
      split <;> rename_i h1 <;> split at h1
      · cases h1
        exact (s.sentFrom_serve _).trans ((State.sentFrom_serve _ _).trans (State.sentFrom_putBulk _ _ _))
      · rw [h1] at h
        exact h.trans ((State.sentFrom_serve _ _).trans (State.sentFrom_putBulk _ _ _))
      · cases h1
      · rwa [h1] at h
    · rfl

/-- The step that a serve over this link makes is the send step of its phase (R158). -/
theorem State.resumeSend_of_serve {s : State} {port : LinkPort} {v : Serve} (h : s.serve = some v) (hr : v.receiver = port) :
    s.resumeSend port = match v.phase with
      | .bulk => s.sendStep
      | .final => s.finalSendStep := by
  unfold State.resumeSend
  rw [h]
  exact if_pos hr

/-- A serve over the other link, or none, makes no step when a frame leaves this one (R158). -/
theorem State.resumeSend_of_not_serving {s : State} {port : LinkPort} (h : s.serving port = false) :
    s.resumeSend port = s := by
  unfold State.serving at h
  unfold State.resumeSend
  split
  · rfl
  · rename_i v hv
    rw [hv] at h
    rw [if_neg (by simpa using h)]

/-- What the step that the head of a full bulk queue lets go on can change (R158). -/
theorem State.sentFrom_resumeSend (s : State) (port : LinkPort) : s.SentFrom (s.resumeSend port) := by
  unfold State.resumeSend
  split
  · rfl
  · split
    · split
      · exact s.sentFrom_sendStep
      · exact s.sentFrom_finalSendStep
    · rfl

/-- What the end of a frame on a link can change (R158, R159). -/
theorem State.sentFrom_transmitEnded (s : State) (port : LinkPort) : s.SentFrom (s.transmitEnded port) := by
  unfold State.transmitEnded
  dsimp only []
  split
  · exact (s.sentFrom_setLink _ _).trans (State.sentFrom_resumeSend _ _)
  · exact s.sentFrom_setLink _ _

/-! ### The port after a warm restart (R19, R185) -/

@[simp] theorem HostPort.restarted_service (p : HostPort) : p.restarted.service = none := rfl
@[simp] theorem HostPort.restarted_owed (p : HostPort) : p.restarted.owed = [] := rfl
@[simp] theorem HostPort.restarted_rx (p : HostPort) : p.restarted.rx = p.rx := rfl

/-- An answer waits after a warm restart exactly where it waited before as an answer to a frame not taken or as the OK reply
of a FILL, and the port owes nothing more for it (R19, R185; log 11). -/
theorem HostPort.mem_restarted_ready {p : HostPort} {a : Answer} :
    a ∈ p.restarted.ready ↔ ∃ b ∈ p.ready, (b.role = .plain ∨ b.kind = 8 ∧ b.outcome = .ok) ∧ a = { b with role := .plain } := by
  simp only [HostPort.restarted, List.mem_map, List.mem_filter, Answer.survives, Bool.or_eq_true, Bool.and_eq_true,
    beq_iff_eq]
  constructor
  · rintro ⟨b, ⟨hb, hs⟩, rfl⟩
    exact ⟨b, hb, hs, rfl⟩
  · rintro ⟨b, hb, hs, rfl⟩
    exact ⟨b, ⟨hb, hs⟩, rfl⟩

end Sys2Proof.Machine
end

