-- ==== Sys2Proof/Laws/Memory.lean ====
section
/-! SUPPORT. The memory of the store: what a read gives after a write or a clearing, and that both keep the canonical
form. -/

namespace Sys2Proof.Machine

theorem Memory.get_of_lt_head (m : Memory) (a : Nat) (h : ∀ e ∈ m, a < e.1) : m.get a = Cell.zero := by
  induction m with
  | nil => rfl
  | cons e m ih =>
    obtain ⟨k, c⟩ := e
    have hk : a < k := h (k, c) (by simp)
    simp only [Memory.get, if_neg (show ¬ k = a by omega)]
    exact ih fun e he => h e (List.mem_cons_of_mem _ he)

/-- Every key that `place` leaves is the key placed or was listed before. -/
theorem Memory.mem_place {m : Memory} {a : Nat} {c : Cell} {e : Nat × Cell} (h : e ∈ m.place a c) :
    e = (a, c) ∨ e ∈ m := by
  induction m with
  | nil => simp_all [Memory.place]
  | cons x m ih =>
    obtain ⟨k, d⟩ := x
    simp only [Memory.place] at h
    split at h
    · rcases List.mem_cons.mp h with h | h
      · exact .inl h
      · exact .inr h
    · split at h
      · rcases List.mem_cons.mp h with h | h
        · exact .inl h
        · exact .inr (List.mem_cons_of_mem _ h)
      · rcases List.mem_cons.mp h with h | h
        · exact .inr (by simp [h])
        · rcases ih h with h | h
          · exact .inl h
          · exact .inr (List.mem_cons_of_mem _ h)

theorem Memory.pairwise_place {m : Memory} (a : Nat) (c : Cell) (h : m.Pairwise (fun x y => x.1 < y.1)) :
    (m.place a c).Pairwise (fun x y => x.1 < y.1) := by
  induction m with
  | nil => simp [Memory.place]
  | cons x m ih =>
    obtain ⟨k, d⟩ := x
    rw [List.pairwise_cons] at h
    simp only [Memory.place]
    split
    · rename_i hk
      refine List.pairwise_cons.mpr ⟨fun e he => ?_, List.pairwise_cons.mpr h⟩
      rcases List.mem_cons.mp he with rfl | he
      · exact hk
      · exact lt_trans hk (h.1 e he)
    · split
      · rename_i hk
        subst hk
        exact List.pairwise_cons.mpr h
      · rename_i h1 h2
        refine List.pairwise_cons.mpr ⟨fun e he => ?_, ih h.2⟩
        rcases Memory.mem_place he with rfl | he
        · show k < a
          omega
        · exact h.1 e he

theorem Memory.wf_nil : Memory.wf [] := by simp [Memory.wf]

/-- Clearing a run of keys keeps the canonical form. -/
theorem Memory.wf_clear {m : Memory} (lo hi : Nat) (h : m.wf) : (m.clear lo hi).wf :=
  ⟨h.1.filter _, fun e he => h.2 e (List.mem_filter.mp he).1⟩

/-- A write keeps the canonical form. -/
theorem Memory.wf_set {m : Memory} (a : Nat) (c : Cell) (h : m.wf) : (m.set a c).wf := by
  unfold Memory.set
  split
  · exact Memory.wf_clear _ _ h
  · rename_i hc
    refine ⟨Memory.pairwise_place a c h.1, fun e he => ?_⟩
    rcases Memory.mem_place he with rfl | he
    · exact hc
    · exact h.2 e he

theorem Memory.get_place {m : Memory} (a b : Nat) (c : Cell) (h : m.Pairwise (fun x y => x.1 < y.1)) :
    (m.place a c).get b = if b = a then c else m.get b := by
  induction m with
  | nil =>
    by_cases hb : b = a
    · simp [Memory.place, Memory.get, hb]
    · simp [Memory.place, Memory.get, hb, Ne.symm hb]
  | cons x m ih =>
    obtain ⟨k, d⟩ := x
    rw [List.pairwise_cons] at h
    simp only [Memory.place]
    split
    · by_cases hb : b = a
      · simp [Memory.get, hb]
      · simp [Memory.get, hb, Ne.symm hb]
    · split
      · rename_i hk
        subst hk
        by_cases hb : b = a
        · simp [Memory.get, hb]
        · simp [Memory.get, hb, Ne.symm hb]
      · rename_i h1 h2
        by_cases hk : k = b
        · subst hk
          simp [Memory.get, Ne.symm h2]
        · simp only [Memory.get, if_neg hk]
          exact ih h.2

/-- A read after a clearing: 0, 0, CLEAN in the run, and as before outside it. -/
theorem Memory.get_clear {m : Memory} (lo hi b : Nat) (h : m.Pairwise (fun x y => x.1 < y.1)) :
    (m.clear lo hi).get b = if lo ≤ b ∧ b < hi then Cell.zero else m.get b := by
  induction m with
  | nil => simp [Memory.clear, Memory.get]
  | cons x m ih =>
    obtain ⟨k, d⟩ := x
    rw [List.pairwise_cons] at h
    have ih := ih h.2
    unfold Memory.clear at ih ⊢
    by_cases hk : lo ≤ k ∧ k < hi
    · have hn : ¬ ((k < lo || hi ≤ k) = true) := by simp; omega
      rw [List.filter_cons_of_neg (by simpa using hn), ih]
      by_cases hkb : k = b
      · subst hkb; simp [hk]
      · simp [Memory.get, hkb]
    · have hn : (k < lo || hi ≤ k) = true := by simp; omega
      rw [List.filter_cons_of_pos (by simpa using hn)]
      by_cases hkb : k = b
      · subst hkb; simp [Memory.get, hk]
      · simp only [Memory.get, if_neg hkb]; exact ih

/-- A read after a write: the cell written, and every other key as before. -/
theorem Memory.get_set {m : Memory} (a b : Nat) (c : Cell) (h : m.wf) :
    (m.set a c).get b = if b = a then c else m.get b := by
  unfold Memory.set
  split
  · rename_i hc
    rw [Memory.get_clear _ _ _ h.1, hc]
    by_cases hb : b = a
    · subst hb; simp
    · rw [if_neg (by omega), if_neg hb]
  · exact Memory.get_place a b c h.1

/-- Two words of the store have two keys (R1). -/
theorem wordKey_inj {f o f' o' : Nat} (ho : o < 256) (ho' : o' < 256) : wordKey f o = wordKey f' o' ↔ f = f' ∧ o = o' := by
  unfold wordKey; omega

/-- The cell of a word after a write to another word or to itself (R4). -/
theorem State.cell_setCell (s : State) {f o f' o' : Nat} (c : Cell) (h : s.mem.wf) (ho : o < 256) (ho' : o' < 256) :
    (s.setCell f o c).cell f' o' = if f' = f ∧ o' = o then c else s.cell f' o' := by
  unfold State.cell
  simp only [State.setCell_mem, Memory.get_set _ _ _ h, wordKey_inj ho' ho]

end Sys2Proof.Machine
end

