-- ==== Sys2Proof/Laws/PerInstr.lean ====
section
/-! SUPPORT. A law of every command as syntax, one lemma per command: how the host port carries the requests. -/

namespace Sys2Proof.Laws

open Sys2Proof.Machine

/-- A well-formed request has one of the twenty kinds, a tag of two bytes, and a payload of the length its kind requires
(R186, R187). -/
def Carried.Statement (i : Instr) : Prop :=
  i.wf = true → ∀ r, requestOf i = some r →
    1 ≤ r.kind ∧ r.kind ≤ 20 ∧ r.tag < 65536 ∧ r.payload.length = requiredLength r.kind r.payload

/-- The length of words laid out in bytes. -/
theorem wordBytes_length (ws : List Word) : (ws.flatMap wordBytes).length = 2 * ws.length := by
  induction ws with
  | nil => rfl
  | cons w ws ih => simp only [List.flatMap_cons, List.length_append, ih, List.length_cons, wordBytes]; simp; omega

/-- A request whose payload has a fixed length. -/
theorem carried_of {i : Instr} {k t : Nat} {p : List Byte} (hr : requestOf i = some ⟨k, t, p⟩) (hk : 1 ≤ k ∧ k ≤ 20)
    (ht : i.wf = true → t < 65536) (hl : i.wf = true → p.length = requiredLength k p) : Carried.Statement i := by
  intro hw r h
  rw [hr] at h
  cases h
  exact ⟨hk.1, hk.2, ht hw, hl hw⟩

/-- A command that is no request. -/
theorem carried_of_none {i : Instr} (hr : requestOf i = none) : Carried.Statement i := by
  intro _ r h
  rw [hr] at h
  cases h

theorem Carried.powerOn : Carried.Statement .powerOn := carried_of_none rfl
theorem Carried.startUpSweepEnd : Carried.Statement .startUpSweepEnd := carried_of_none rfl
theorem Carried.restartInput : Carried.Statement .restartInput := carried_of_none rfl
theorem Carried.oneBitDisturbance (frame offset : Nat) : Carried.Statement (.oneBitDisturbance frame offset) := carried_of_none rfl
theorem Carried.silentDisturbance (frame offset : Nat) (value : Word) : Carried.Statement (.silentDisturbance frame offset value) := carried_of_none rfl
theorem Carried.hostFrameCheck (bytes : List Byte) : Carried.Statement (.hostFrameCheck bytes) := carried_of_none rfl
theorem Carried.hostFrameCutOff : Carried.Statement .hostFrameCutOff := carried_of_none rfl
theorem Carried.replyEnd : Carried.Statement .replyEnd := carried_of_none rfl
theorem Carried.status (tag : Nat) : Carried.Statement (.status tag) :=
  carried_of rfl (by decide) (fun h => by simp [Instr.wf] at h; omega) fun _ => rfl
theorem Carried.configLane (tag : Nat) (values : LaneValues) : Carried.Statement (.configLane tag values) :=
  carried_of rfl (by decide) (fun h => by simp [Instr.wf] at h; omega) fun _ => rfl
theorem Carried.configRegion (tag id firstPage pageCount classCode seed : Nat) : Carried.Statement (.configRegion tag id firstPage pageCount classCode seed) :=
  carried_of rfl (by decide) (fun h => by simp [Instr.wf] at h; omega) fun _ => rfl
theorem Carried.configRegionClear (tag id : Nat) : Carried.Statement (.configRegionClear tag id) :=
  carried_of rfl (by decide) (fun h => by simp [Instr.wf] at h; omega) fun _ => rfl
theorem Carried.openCold (tag : Nat) : Carried.Statement (.openCold tag) :=
  carried_of rfl (by decide) (fun h => by simp [Instr.wf] at h; omega) fun _ => rfl
theorem Carried.openJoin (tag : Nat) : Carried.Statement (.openJoin tag) :=
  carried_of rfl (by decide) (fun h => by simp [Instr.wf] at h; omega) fun _ => rfl
theorem Carried.openMappingEnd : Carried.Statement .openMappingEnd := carried_of_none rfl
theorem Carried.openColdZeroFillWrite (page : Nat) : Carried.Statement (.openColdZeroFillWrite page) := carried_of_none rfl
theorem Carried.openColdCompletion : Carried.Statement .openColdCompletion := carried_of_none rfl
theorem Carried.stop (tag : Nat) : Carried.Statement (.stop tag) :=
  carried_of rfl (by decide) (fun h => by simp [Instr.wf] at h; omega) fun _ => rfl
theorem Carried.read (tag address count : Nat) : Carried.Statement (.read tag address count) :=
  carried_of rfl (by decide) (fun h => by simp [Instr.wf] at h; omega) fun _ => rfl
theorem Carried.hostReadWord : Carried.Statement .hostReadWord := carried_of_none rfl
theorem Carried.write (tag address count : Nat) (words : List Word) : Carried.Statement (.write tag address count words) := by
  refine carried_of rfl (by decide) (fun h => by simp [Instr.wf] at h; omega) fun h => ?_
  simp only [Instr.wf, Bool.and_eq_true, decide_eq_true_eq, beq_iff_eq] at h
  have hc : count % 256 = count := Nat.mod_eq_of_lt h.1.2
  rw [List.length_append, wordBytes_length, h.2]
  simp [requiredLength, fieldValue, field1, field2, hc]
theorem Carried.hostWriteWord : Carried.Statement .hostWriteWord := carried_of_none rfl
theorem Carried.fill (tag page : Nat) (value : Word) : Carried.Statement (.fill tag page value) :=
  carried_of rfl (by decide) (fun h => by simp [Instr.wf] at h; omega) fun _ => rfl
theorem Carried.adopt (tag region : Nat) : Carried.Statement (.adopt tag region) :=
  carried_of rfl (by decide) (fun h => by simp [Instr.wf] at h; omega) fun _ => rfl
theorem Carried.cycleClose (tag cycle : Nat) : Carried.Statement (.cycleClose tag cycle) :=
  carried_of rfl (by decide) (fun h => by simp [Instr.wf] at h; omega) fun _ => rfl
theorem Carried.gateRead : Carried.Statement .gateRead := carried_of_none rfl
theorem Carried.lockAdvance : Carried.Statement .lockAdvance := carried_of_none rfl
theorem Carried.lockArm (tag index modeCode : Nat) (gate : Option Nat) (preset : Nat) : Carried.Statement (.lockArm tag index modeCode gate preset) :=
  carried_of rfl (by decide) (fun h => by simp [Instr.wf] at h; omega) fun _ => rfl
theorem Carried.lockCancel (tag index : Nat) : Carried.Statement (.lockCancel tag index) :=
  carried_of rfl (by decide) (fun h => by simp [Instr.wf] at h; omega) fun _ => rfl
theorem Carried.lockRead (tag first count : Nat) : Carried.Statement (.lockRead tag first count) :=
  carried_of rfl (by decide) (fun h => by simp [Instr.wf] at h; omega) fun _ => rfl
theorem Carried.take (tag : Nat) : Carried.Statement (.take tag) :=
  carried_of rfl (by decide) (fun h => by simp [Instr.wf] at h; omega) fun _ => rfl
theorem Carried.doneClass (tag cls : Nat) : Carried.Statement (.doneClass tag cls) :=
  carried_of rfl (by decide) (fun h => by simp [Instr.wf] at h; omega) fun _ => rfl
theorem Carried.doneNoClass (tag : Nat) : Carried.Statement (.doneNoClass tag) :=
  carried_of rfl (by decide) (fun h => by simp [Instr.wf] at h; omega) fun _ => rfl
theorem Carried.mask (tag : Nat) (set : Byte) : Carried.Statement (.mask tag set) :=
  carried_of rfl (by decide) (fun h => by simp [Instr.wf] at h; omega) fun _ => rfl
theorem Carried.priorityFixed (tag : Nat) : Carried.Statement (.priorityFixed tag) :=
  carried_of rfl (by decide) (fun h => by simp [Instr.wf] at h; omega) fun _ => rfl
theorem Carried.priorityRotating (tag : Nat) : Carried.Statement (.priorityRotating tag) :=
  carried_of rfl (by decide) (fun h => by simp [Instr.wf] at h; omega) fun _ => rfl
theorem Carried.prioritySetLowest (tag cls : Nat) : Carried.Statement (.prioritySetLowest tag cls) :=
  carried_of rfl (by decide) (fun h => by simp [Instr.wf] at h; omega) fun _ => rfl
theorem Carried.frames (tag first count : Nat) : Carried.Statement (.frames tag first count) :=
  carried_of rfl (by decide) (fun h => by simp [Instr.wf] at h; omega) fun _ => rfl
theorem Carried.poison (tag : Nat) : Carried.Statement (.poison tag) :=
  carried_of rfl (by decide) (fun h => by simp [Instr.wf] at h; omega) fun _ => rfl
theorem Carried.restart (tag : Nat) : Carried.Statement (.restart tag) :=
  carried_of rfl (by decide) (fun h => by simp [Instr.wf] at h; omega) fun _ => rfl
theorem Carried.patrolStep : Carried.Statement .patrolStep := carried_of_none rfl
theorem Carried.moveTake : Carried.Statement .moveTake := carried_of_none rfl
theorem Carried.moveStep : Carried.Statement .moveStep := carried_of_none rfl
theorem Carried.windowExpiry : Carried.Statement .windowExpiry := carried_of_none rfl
theorem Carried.deadlineExpiry : Carried.Statement .deadlineExpiry := carried_of_none rfl
theorem Carried.halfPeriodExpiry : Carried.Statement .halfPeriodExpiry := carried_of_none rfl
theorem Carried.linkFrameCheck (port : LinkPort) (words : List Word) : Carried.Statement (.linkFrameCheck port words) := carried_of_none rfl
theorem Carried.linkReceiveCutOff (port : LinkPort) : Carried.Statement (.linkReceiveCutOff port) := carried_of_none rfl
theorem Carried.silenceTimerExpiry : Carried.Statement .silenceTimerExpiry := carried_of_none rfl
theorem Carried.sendStep : Carried.Statement .sendStep := carried_of_none rfl
theorem Carried.finalSendStep : Carried.Statement .finalSendStep := carried_of_none rfl
theorem Carried.lockImageQueued : Carried.Statement .lockImageQueued := carried_of_none rfl
theorem Carried.syncMarkQueued : Carried.Statement .syncMarkQueued := carried_of_none rfl
theorem Carried.transmitEnd (port : LinkPort) : Carried.Statement (.transmitEnd port) := carried_of_none rfl
theorem Carried.idleFill (port : LinkPort) : Carried.Statement (.idleFill port) := carried_of_none rfl
theorem Carried.linkTimeout (port : LinkPort) : Carried.Statement (.linkTimeout port) := carried_of_none rfl

end Sys2Proof.Laws
end

