-- ==== Sys2Proof/Laws/Port.lean ====
section
/-! SUPPORT. What taking a request and replying to it do, said once. -/

namespace Sys2Proof.Machine

/-- A request that is given goes to its block's event with the request in service, and nothing else changed (R176,
R177). -/
theorem State.request_given {s : State} {c : Instr} {kind tag : Nat} {payload : List Byte} (own : State → State)
    (hc : requestOf c = some ⟨kind, tag, payload⟩) (hk : 1 ≤ kind ∧ kind ≤ 20) (hl : payload.length ≤ 131)
    (hr : payload.length = requiredLength kind payload) (h : s.given kind tag c) :
    s.request c own = own (s.inHand kind tag) := by
  unfold State.request
  rcases h with h | ⟨h, hsw⟩
  · have : s.hasHanded c = true := by simp [State.hasHanded, h]
    rw [if_pos this]
    simp [State.takeUp, State.inHand, HostPort.inHand, h]
  · have h0 : s.hasHanded c = false := by simp [State.hasHanded, h]
    have h1 : s.arrive c = s.serve1 kind tag (some c) := by
      have hsw' : ¬ (s.sweeping = true ∧ kind ≠ 1) := by rcases hsw with h | h <;> simp [h]
      simp only [State.arrive, hc, if_neg (Nat.not_lt.mpr hl), State.judge, h, State.judgeIdle]
      rw [if_neg (by omega), ← hr]
      simp [hsw']
    rw [if_neg (by simp [h0]), h1]
    simp [State.hasHanded, State.serve1, State.takeUp, State.inHand, HostPort.inHand]

/-- The reply to a request in hand is the port's answer, and nothing else changes (R178). -/
theorem State.reply_of_service {s : State} {kind tag : Nat} {c : Option Instr}
    (h : s.port.service = some ⟨kind, tag, c⟩) (o : ReplyOutcome) (bs : List Byte) :
    s.reply o bs = { s with port := s.port.push ⟨.reply, kind, tag, o, bs⟩ } := by
  simp [State.reply, h]

/-- A request answered as soon as it is in hand. -/
theorem State.inHand_reply (s : State) (kind tag : Nat) (o : ReplyOutcome) (bs : List Byte) :
    (s.inHand kind tag).reply o bs = s.answered kind tag o bs := by
  simp [State.reply, State.inHand, HostPort.inHand, State.answered, HostPort.answered]

/-- An answer pushed on a quiet line begins to leave; on a busy line it waits behind those that wait (R178). -/
theorem HostPort.push_eq (p : HostPort) (a : Answer) :
    p.push a = if p.line.isNone then { p with line := some a } else { p with ready := p.ready ++ [a] } := by
  unfold HostPort.push; split <;> simp_all

@[simp] theorem HostPort.push_service (p : HostPort) (a : Answer) : (p.push a).service = p.service := by
  unfold HostPort.push; split <;> rfl
@[simp] theorem HostPort.push_owed (p : HostPort) (a : Answer) : (p.push a).owed = p.owed := by
  unfold HostPort.push; split <;> rfl
@[simp] theorem HostPort.push_rx (p : HostPort) (a : Answer) : (p.push a).rx = p.rx := by
  unfold HostPort.push; split <;> rfl

end Sys2Proof.Machine
end

