-- ==== Sys2Proof/Tests/Slice0.lean ====
section
/-! SUPPORT. The model's own tests: an ill-formed command for each check of well-formedness, figures and sequences worked in
the spec, and for every statement a state and operands that meet its hypotheses. -/

namespace Sys2Proof.Tests

open Sys2Proof.Machine

set_option Elab.async false

/-! ### Well-formedness: an ill-formed command for each check -/

theorem test_wf_disturbances : (Instr.oneBitDisturbance 128 0).wf = false ∧ (Instr.oneBitDisturbance 0 256).wf = false ∧
    (Instr.silentDisturbance 128 0 1).wf = false ∧ (Instr.silentDisturbance 0 256 1).wf = false := by decide +kernel
theorem test_wf_lines : (Instr.hostFrameCheck []).wf = false ∧ (Instr.linkFrameCheck .u []).wf = false := by decide +kernel
theorem test_wf_tags : [Instr.status, .openCold, .openJoin, .stop, .take, .doneNoClass, .priorityFixed, .priorityRotating,
    .poison, .restart].all (fun c => (c 65536).wf == false && (c 65535).wf) = true := by decide +kernel
theorem test_wf_tags_more : [fun t => Instr.configLane t ⟨0, 0, 0, 0, 0, 0, 0, 0, 0, 0, 0⟩, fun t => .configRegion t 0 0 0 0 0,
    fun t => .configRegionClear t 0, fun t => .read t 0 0, fun t => .write t 0 0 [], fun t => .fill t 0 0, fun t => .adopt t 0,
    fun t => .cycleClose t 0, fun t => .lockArm t 0 0 none 0, fun t => .lockCancel t 0, fun t => .lockRead t 0 0,
    fun t => .doneClass t 0, fun t => .mask t 0, fun t => .prioritySetLowest t 0, fun t => .frames t 0 0].all
      (fun c => (c 65536).wf == false && (c 65535).wf) = true := by decide +kernel
theorem test_wf_configLane : (LaneValues.mk 256 0 0 0 0 0 0 0 0 0 0).wf = false ∧
    (LaneValues.mk 0 65536 0 0 0 0 0 0 0 0 0).wf = false ∧ (LaneValues.mk 0 0 65536 0 0 0 0 0 0 0 0).wf = false ∧
    (LaneValues.mk 0 0 0 256 0 0 0 0 0 0 0).wf = false ∧ (LaneValues.mk 0 0 0 0 256 0 0 0 0 0 0).wf = false ∧
    (LaneValues.mk 0 0 0 0 0 256 0 0 0 0 0).wf = false ∧ (LaneValues.mk 0 0 0 0 0 0 256 0 0 0 0).wf = false ∧
    (LaneValues.mk 0 0 0 0 0 0 0 256 0 0 0).wf = false ∧ (LaneValues.mk 0 0 0 0 0 0 0 0 256 0 0).wf = false ∧
    (LaneValues.mk 0 0 0 0 0 0 0 0 0 65536 0).wf = false ∧ (LaneValues.mk 0 0 0 0 0 0 0 0 0 0 256).wf = false := by decide +kernel
theorem test_wf_configRegion : (Instr.configRegion 0 256 0 0 0 0).wf = false ∧ (Instr.configRegion 0 0 256 0 0 0).wf = false ∧
    (Instr.configRegion 0 0 0 256 0 0).wf = false ∧ (Instr.configRegion 0 0 0 0 256 0).wf = false ∧
    (Instr.configRegion 0 0 0 0 0 16777216).wf = false ∧ (Instr.configRegionClear 0 256).wf = false := by decide +kernel
theorem test_wf_image : (Instr.openColdZeroFillWrite 120).wf = false ∧ (Instr.read 0 65536 0).wf = false ∧
    (Instr.read 0 0 256).wf = false ∧ (Instr.write 0 65536 0 []).wf = false ∧
    (Instr.write 0 0 256 (List.replicate 256 0)).wf = false ∧ (Instr.write 0 0 2 [7]).wf = false ∧
    (Instr.fill 0 256 0).wf = false ∧ (Instr.adopt 0 256).wf = false ∧ (Instr.frames 0 256 0).wf = false ∧
    (Instr.frames 0 0 256).wf = false := by decide +kernel
theorem test_wf_close : (Instr.cycleClose 0 4294967296).wf = false ∧ (Instr.lockArm 0 256 1 none 1).wf = false ∧
    (Instr.lockArm 0 0 256 none 1).wf = false ∧ (Instr.lockArm 0 0 1 (some 65535) 1).wf = false ∧
    (Instr.lockArm 0 0 1 none 65536).wf = false ∧ (Instr.lockCancel 0 256).wf = false ∧
    (Instr.lockRead 0 256 0).wf = false ∧ (Instr.lockRead 0 0 256).wf = false := by decide +kernel
theorem test_wf_attention : (Instr.doneClass 0 255).wf = false ∧ (Instr.prioritySetLowest 0 256).wf = false := by decide +kernel

/-! ### Figures and layouts worked in the spec -/

/-- The check of the nine digits (R186). -/
theorem test_frame_check : crcBytes [0x31, 0x32, 0x33, 0x34, 0x35, 0x36, 0x37, 0x38, 0x39] = 0x29B1#16 := by decide +kernel
/-- The table of R45. -/
theorem test_zero_image : [1, 3, 65536].map (fun s => (zeroImage 1 s).val) = [32896, 33151, 32641] ∧
    [1, 3, 65536].map (fun s => (zeroImage 2 s).val) = [254, 762, 65283] ∧
    [1, 3, 65536].map (fun s => (zeroImage 16 s).val) = [1920, 5760, 63617] := by decide +kernel
/-- The first three writes of 3.4. -/
theorem test_digest_writes : (zeroImage 1 3 + changeTerm 3 5 0 1000).val = 51151 ∧
    (zeroImage 1 3 + changeTerm 3 5 0 1000 + changeTerm 3 255 0 65535).val = 49615 ∧
    (zeroImage 1 3 + changeTerm 3 255 0 65535).val = 31615 := by decide +kernel
/-- The two-page region of 3.5. -/
theorem test_digest_two_pages : (zeroImage 2 1000).val = 57389 ∧ (weight 1000 260).val = 64389 ∧
    (zeroImage 2 1000 + changeTerm 1000 260 0 7).val = 49353 := by decide +kernel
/-- The lock digests of 3.8 and 3.9. -/
theorem test_lock_digest : (lockDigestOf (List.replicate 48 LockTimer.idle)).val = 34553 ∧
    (lockDigestOf (⟨.running, some .plain, none, 120, none, 119, false⟩ :: List.replicate 47 LockTimer.idle)).val = 57422 := by
  decide +kernel
/-- The DIGEST of 12's worked example, word by word but for its check. -/
theorem test_digest_words : (LinkFrame.words ⟨0, .digest 57 true [(4, 49353), (16, 57422)]⟩).dropLast =
    [0x5AC3, 0x100A, 0x0001, 0x0000, 0x0039, 0x0004, 0xC0C9, 0x0010, 0xE04E] := by decide +kernel
/-- A digest of 65536 in a list entry (12's worked example). -/
theorem test_digest_65536 : entryWords (4, Fin.ofNat 65537 65536) = [0x0104, 0x0000] := by decide +kernel
/-- The idle fill is three words (R160). -/
theorem test_idle_fill : (LinkFrame.words ⟨1, .idleFill⟩).length = 3 ∧
    checkLinkFrame (LinkFrame.words ⟨1, .idleFill⟩) = some .idleFill := by decide +kernel
/-- A WRITE frame laid out by R186 and R187: start, length 8, kind 7, tag, address, count, one word. -/
theorem test_write_frame : ((requestOf (.write 0x0102 10500 1 [7])).map fun r => r.frame.dropLast.dropLast) =
    some [0xA5, 0x00, 0x08, 0x07, 0x01, 0x02, 0x29, 0x04, 0x01, 0x00, 0x07] := by decide +kernel
/-- The gate of the approach lock of chapter 5: closes 41 to 43 with presets 3 and pending 4. -/
theorem test_approach_lock :
    LockTimer.step ⟨.running, some .rearm, some 788, 3, none, 3, false⟩ [(788, 0)] =
      (⟨.running, some .rearm, some 788, 3, none, 3, false⟩, none) ∧
    LockTimer.step ⟨.running, some .rearm, some 788, 3, none, 3, false⟩ [(788, 1)] =
      (⟨.running, some .rearm, some 788, 3, none, 2, false⟩, none) ∧
    LockTimer.step ⟨.running, some .rearm, some 788, 3, some 4, 2, false⟩ [(788, 0)] =
      (⟨.running, some .rearm, some 788, 4, none, 4, false⟩, none) ∧
    LockTimer.step ⟨.running, some .rearm, some 788, 4, none, 1, false⟩ [(788, 1)] =
      (⟨.expired, some .rearm, some 788, 4, none, 0, false⟩, some .expired) ∧
    LockTimer.step ⟨.expired, some .rearm, some 788, 4, none, 0, false⟩ [] =
      (⟨.expired, some .rearm, some 788, 4, none, -1, false⟩, none) := by decide +kernel
/-- The first rows of 10's nested handling: LINK taken, PATROL held back, LOCK over LINK. -/
theorem test_nested_attention :
    let a1 := Attention.cleared.raise (.link 1 .late)
    let a2 := (a1.takeClass 4).raise (.patrol 2 .suspect)
    let a3 := a2.raise (.lock 12 .expired)
    a1.attn = true ∧ a1.offered = some 4 ∧ a2.attn = false ∧ a3.attn = true ∧ a3.offered = some 3 ∧
      ((a3.takeClass 3).raise (.link 2 .down)).attn = false ∧ (a3.takeClass 3).highestInService = some 3 := by decide +kernel
/-- The verdicts of chapter 6's sequence at 31, 300 and 420, and of both peers lost. -/
theorem test_verdicts :
    judgeLists 0 1 2 [(4, 1), (16, 2)] (some [(4, 1), (16, 2)]) (some [(4, 1), (16, 2)]) = (.agreed, 3, none) ∧
    judgeLists 0 1 2 [(4, 1), (16, 2)] none (some [(4, 1), (16, 2)]) = (.agreed, 2, none) ∧
    judgeLists 0 1 2 [(4, 1), (16, 2)] (some [(4, 1), (16, 2)]) (some [(4, 9), (16, 2)]) = (.peerDivergent, 3, some 2) ∧
    judgeLists 2 0 1 [(4, 9), (16, 2)] (some [(4, 1), (16, 2)]) (some [(4, 1), (16, 2)]) = (.outvoted, 3, some 2) ∧
    judgeLists 0 1 2 [(16, 2)] none none = (.alone, 1, none) := by decide +kernel

/-! ### Small states -/

/-- OFFLINE after the start-up sweep. -/
def idle : State := { State.reset with sweep := none, lane := ⟨some .offline, false, none, none⟩ }

/-- OFFLINE with a request in service that its block has. -/
def hand (s : State) (kind tag : Nat) : State := { s with port := { s.port with service := some ⟨kind, tag, none⟩ } }

/-- With a VITAL region 0 on page 0 and a LANE region 1 on page 1, mapped on frames 0 and 1. -/
def mapped : State := { idle with
  regions := tableSet (tableSet idle.regions 0 (some ⟨0, 1, .vital, 3, zeroImage 1 3, .clean⟩)) 1
    (some ⟨1, 1, .lane, 1, zeroImage 1 1, .clean⟩)
  pages := tableSet (tableSet idle.pages 0 (.active 0)) 1 (.active 1)
  frames := tableSet (tableSet idle.frames 0 ⟨.inUse, 0, false, some 0⟩) 1 ⟨.inUse, 0, false, some 1⟩ }

/-- The same in SERVICE, confirmed, with the waves running. -/
def serving : State := { mapped with
  lane := ⟨some .service, true, none, some 1500⟩
  health := ⟨some ⟨.aHigh, 10, 10⟩, false⟩ }

/-- The same JOINING from the peer at U, in LANDING. -/
def landing : State := { mapped with
  lane := ⟨some .joining, false, none, none⟩
  pages := tableSet mapped.pages 0 (.restoring 0)
  join := some { Join.begin with phase := .landing, attempts := 1, candidate := some .u, silence := some 1000 } }

/-- With the word of a frame and offset as given. -/
def withCell (s : State) (frame offset : Nat) (c : Cell) : State := { s with mem := [(wordKey frame offset, c)] }

/-- With a serve in this phase to the peer at U. -/
def donor (phase : ServePhase) : State := { serving with
  serve := some { Serve.begin .u [0] with phase := phase }
  config := { serving.config with burst := 8 } }

/-- With this record at lock index 0. -/
def withLock (s : State) (t : LockTimer) : State := { s with locks := tableSet s.locks 0 ⟨t, none, false⟩ }

/-- With a vote open on cycle 5 for 100 ms. -/
def voting : State := { serving with vote := ⟨5, .opened, some [(16, 1)], some 100, none⟩ }

/-- With page 1 MOVING from frame 1 to frame 2, its cursor here. -/
def moving (cursor : Nat) : State := { serving with
  pages := tableSet serving.pages 1 (.moving 1 2 cursor false false)
  frames := tableSet serving.frames 2 ⟨.inUse, 0, false, some 1⟩
  moving := some 1 }

/-- The same OFFLINE. -/
def movingOffline (cursor : Nat) : State := { moving cursor with
  lane := idle.lane
  health := idle.health }

/-- With no FREE frame. -/
def crowded : State := { serving with frames := Vector.replicate 128 ⟨.inUse, 4, false, some 1⟩ }

/-- With a pass of region 0 at this cursor. -/
def patrolling (id cursor : Nat) (acc : Digest) : State := { serving with patrol := ⟨some id, some ⟨id, cursor, acc, false⟩⟩ }

/-! ### One step of a command -/

/-- The state a command leaves, or the state before where it does not go on. -/
def after (c : Instr) (s : State) : State :=
  match exec c s with
  | .next t => t
  | .fault _ => s
  | .refused _ => s

/-- 3.4: 1000 written to word 5 of a zero page at seed 3 takes the live digest to 51151; the reply counts one word. -/
theorem test_host_write_word :
    let t := after .hostWriteWord { hand serving 7 1 with run := some (.writing 5 [1000] 0) }
    (t.region 0).map (fun r => r.live.val) = some 51151 ∧ t.cell 0 5 = ⟨1000, .clean 1000⟩ ∧
      t.port.line = some ⟨.reply, 7, 1, .ok, [1]⟩ := by decide +kernel
/-- R7: a SINGLE word is delivered, scrubbed and counted. -/
theorem test_host_read_single :
    let t := after .hostReadWord (withCell { hand serving 6 1 with run := some (.reading 9 1 []) } 0 9 ⟨5, .single 6⟩)
    t.port.line = some ⟨.reply, 6, 1, .ok, [1, 0, 6]⟩ ∧ t.cell 0 9 = ⟨5, .clean 6⟩ ∧ (t.frame 0).count = 1 := by decide +kernel
/-- R9: a DOUBLE VITAL word stops the lane with cause STORE, and the READ ends UNREADABLE. -/
theorem test_host_read_double :
    let t := after .hostReadWord (withCell { hand serving 6 1 with run := some (.reading 9 1 []) } 0 9 ⟨5, .double⟩)
    t.port.line = some ⟨.reply, 6, 1, .unreadable, [0]⟩ ∧ t.lane = ⟨some .stopped, false, some .store, none⟩ ∧
      t.attention.attn = true := by decide +kernel
/-- 4's sequence: the first step of a pass over zero words at seed 3 adds 3; the last adds 3 x 256 = 768. -/
theorem test_patrol_step :
    (after .patrolStep (patrolling 0 0 0)).patrol.pass = some ⟨0, 1, 3, false⟩ ∧
    (after .patrolStep (patrolling 0 255 (zeroImage 1 3 - 768))).patrol = ⟨some 1, some ⟨1, 0, 0, false⟩⟩ := by decide +kernel
/-- R65: a pass over a VITAL region that ends unequal stops the lane with cause SILENT. -/
theorem test_patrol_silent :
    (after .patrolStep (patrolling 0 255 0)).lane = ⟨some .stopped, false, some .silent, none⟩ := by decide +kernel
/-- 5's second sequence: a preset of 0 is applied as 1, one of 65000 as 60000. -/
theorem test_lock_arm :
    (after (.lockArm 1 30 1 none 0) serving).port.line = some ⟨.reply, 11, 1, .ok, [30, 1, 0, 1]⟩ ∧
    (after (.lockArm 1 30 2 (some 6) 65000) serving).port.line = some ⟨.reply, 11, 1, .ok, [30, 1, 0xEA, 0x60]⟩ := by
  decide +kernel
/-- R94: a close out of order is answered with the last closed cycle. -/
theorem test_cycle_close : (after (.cycleClose 1 9) voting).port.line = some ⟨.reply, 10, 1, .outOfOrder, [0, 0, 0, 5]⟩ := by
  decide +kernel
/-- R128, R185: the end of a RESTART's reply takes the lane OFFLINE and frees the port. -/
theorem test_restart :
    let t := after .replyEnd (after (.restart 3) serving)
    t.lane = ⟨some .offline, false, none, none⟩ ∧ t.port.service = none ∧ t.health.wave = none := by decide +kernel
/-- R175, R177: a TAKE frame, byte by byte, is taken into service and handed to its block. -/
theorem test_host_frame_check :
    (after (.hostFrameCheck [0xA5, 0x00, 0x03, 0x0E, 0x00, 0x07, 0x09, 0xD0]) idle).port.service = none ∧
    (after (.hostFrameCheck (Request.frame ⟨14, 7, []⟩)) idle).port.service = some ⟨14, 7, some (.take 7)⟩ := by decide +kernel
/-- 6's sequence at 14 and 31: the last delivery of two PRESENT peers decides early, AGREED with three. -/
theorem test_digest_delivery :
    let s : State := { voting with
      peerU := { voting.peerU with state := .present, held := some [(16, 1)] }
      peerV := { voting.peerV with state := .present } }
    let t := after (.linkFrameCheck .v (LinkFrame.words ⟨2, .digest 5 true [(16, 1)]⟩)) s
    t.vote.lastVerdict = some ⟨5, .agreed, 3, none⟩ ∧ t.vote.state = .decided ∧ t.lane.deadline = some 1500 ∧
      t.linkV.up = true := by decide +kernel
/-- R160: after 5 ms with nothing to send an idle fill leaves. -/
theorem test_idle_fill_leaves :
    (after (.idleFill .u) idle).linkU.leaving = some (⟨0, .idleFill⟩, .fill) ∧ (after (.idleFill .u) idle).time = 5 := by
  decide +kernel
/-- R38: the last step of a move settles the page on the new frame and retires the old one. -/
theorem test_move_step :
    let t := after .moveStep (moving 255)
    t.page 1 = .active 2 ∧ (t.frame 1).state = .retired ∧ t.moving = none ∧ t.attention.offered = some 6 := by decide +kernel

/-- R158: with PAGE frames queued two deep, the end of the frame leaving lets the older go and queues the next in the same
event. -/
theorem test_transmit_end_resumes :
    let page : LinkFrame := ⟨0, .page 0 0 [7]⟩
    let s : State := { donor .bulk with linkU := { (donor .bulk).linkU with
      leaving := some (⟨0, .joinAsk⟩, .control), bulk := [page, page] } }
    let t := after (.transmitEnd .u) s
    t.linkU.leaving = some (page, .bulk) ∧ t.linkU.bulk = [page, ⟨0, .page 0 0 (List.replicate 8 0)⟩] := by decide +kernel
/-- R19, R185: a FILL that is done and whose reply waits behind a busy line is answered after the RESTART input; the waiting
replies of a STOP and of a FILL that was refused are not sent. -/
theorem test_restart_keeps_fill_reply :
    let waiting := fun k o => { hand idle k 1 with port := { (hand idle k 1).port with
      line := some ⟨.plain, 0, 0, .badFrame, []⟩, ready := [⟨.reply, k, 1, o, []⟩] } }
    (after .replyEnd (after .restartInput (waiting 8 .ok))).port.line = some ⟨.plain, 8, 1, .ok, []⟩ ∧
      (after .replyEnd (after .restartInput (waiting 8 .notMapped))).port.line = none ∧
      (after .replyEnd (after .restartInput (waiting 5 .ok))).port.line = none := by decide +kernel

/-- The mapped image keeps the pool law. -/
theorem mapped_pool : mapped.PoolLaw := by
  have hp : ∀ page, mapped.page page = if page = 1 then .active 1 else if page = 0 then .active 0 else .unmapped := by
    intro page
    rcases page with _ | _ | n
    · decide +kernel
    · decide +kernel
    · rw [if_neg (by omega), if_neg (by omega)]
      refine (tableGet_tableSet_ne _ _ _ (by omega)).trans ((tableGet_tableSet_ne _ _ _ (by omega)).trans ?_)
      exact tableGet_replicate _ _ _
  have hf : ∀ k, mapped.frame k =
      if k = 1 then ⟨.inUse, 0, false, some 1⟩ else if k = 0 then ⟨.inUse, 0, false, some 0⟩ else FrameRecord.fresh := by
    intro k
    rcases k with _ | _ | n
    · decide +kernel
    · decide +kernel
    · rw [if_neg (by omega), if_neg (by omega)]
      refine (tableGet_tableSet_ne _ _ _ (by omega)).trans ((tableGet_tableSet_ne _ _ _ (by omega)).trans ?_)
      exact tableGet_replicate _ _ _
  refine ⟨fun page k h => ?_, fun k page h => ?_, fun k h => ?_, fun page f g c p r h => ?_, fun page h => by cases h⟩
  · rw [hp] at h
    split at h
    · cases h; simp [*]
    · split at h
      · cases h; simp [*]
      · cases h
  · rw [hf] at h ⊢
    split at h
    · cases h; simp [PageEntry.names, *]
    · split at h
      · cases h; simp [PageEntry.names, *]
      · cases h
  · rw [hf] at h
    split at h
    · cases h
    · split at h <;> cases h
  · rw [hp] at h
    split at h
    · cases h
    · split at h <;> cases h

/-! ### A state and operands for every statement's hypotheses, clause by clause -/

theorem test_meets_StepRunsFrontCommand :
    ({ idle with pending := [.moveTake, .take 1] } : State).pending = .moveTake :: [.take 1] ∧ idle.pending = [] := by
  decide +kernel
theorem test_meets_CommandsKeepQueue : exec .moveTake idle = .next idle := rfl
theorem test_meets_OnlyMissingWordsStop : (Instr.oneBitDisturbance 127 255).wf = true ∧ (128 ≤ 128 ∨ 256 ≤ 0) := by decide +kernel
theorem test_meets_SweepEndGoesOffline : State.reset.sweep = some 0 ∧ State.reset.mem.wf := by decide +kernel
theorem test_meets_RestartInputActs : State.reset.sweeping = true ∧
    (({ idle with advance := some ⟨1, [], []⟩ } : State).sweeping = false ∧
      ({ idle with advance := some ⟨1, [], []⟩ } : State).restartWaits = true) ∧
    idle.sweeping = false ∧ idle.restartWaits = false ∧ (moving 5).sweeping = false ∧ (moving 5).restartWaits = false ∧
    (moving 5).moving = some 1 ∧ (moving 5).page 1 = .moving 1 2 5 false false := by decide +kernel
theorem test_meets_OneBitDisturbanceMovesOneStep :
    [Content.clean 5, .single 5, .double].all (fun c => decide ((withCell idle 127 255 ⟨5, c⟩).sweep = none ∧
      (withCell idle 127 255 ⟨5, c⟩).mem.wf ∧ ((withCell idle 127 255 ⟨5, c⟩).cell 127 255).content = c)) = true := by
  decide +kernel
theorem test_meets_SilentDisturbanceReplacesStored : 127 < 128 ∧ 255 < 256 ∧
    (withCell idle 127 255 ⟨5, .single 5⟩).sweep = none ∧ (withCell idle 127 255 ⟨5, .single 5⟩).mem.wf := by decide +kernel
theorem test_meets_DisturbanceDuringSweep : State.reset.sweep = some 0 ∧ 0 ≤ 32768 ∧ State.reset.mem.wf := by decide +kernel
theorem test_meets_RequestRoundTrip : (Instr.write 65535 30719 1 [7]).wf = true ∧
    (requestOf (.write 65535 30719 1 [7])).isSome = true ∧ ([0, 0] : List Byte).length ≤ 2 ∧ 20 ≠ 7 := by decide +kernel
theorem test_meets_RequestFrameTaken : (Instr.write 1 0 64 (List.replicate 64 7)).wf = true ∧
    (requestOf (.write 1 0 64 (List.replicate 64 7))).map (fun r => r.payload.length) = some 131 ∧
    idle.port.service = none ∧ idle.port.rx = [] ∧ idle.sweeping = false ∧
    (requestOf (.status 1)).map Request.kind = some 1 ∧ State.reset.port.service = none := by decide +kernel
theorem test_meets_CutOffFrameAnswered : ({ idle.port with rx := [0xA5] } : HostPort).rx = 0xA5 :: [] ∧
    ({ idle.port with rx := [0xA5] } : HostPort).service = none ∧ (hand idle 4 1).port.service = some ⟨4, 1, none⟩ ∧
    ([0, 9] : List Byte).length = (0x00#8).toNat * 256 + (0x00#8).toNat + 2 ∧ (0x00#8).toNat * 256 + (0x87#8).toNat = 135 ∧
    ([14, 0, 7, 9, 0xD1] : List Byte).drop 3 ≠ wordBytes (crcBytes (0 :: 3 :: ([14, 0, 7, 9, 0xD1] : List Byte).take 3)) ∧
    idle.port.rx = [] ∧ idle.sweeping = false ∧ State.reset.sweeping = true := by decide +kernel
/-- Requests for each clause: a kind of no request, a wrong length, and codes of no row. -/
theorem test_meets_CutOffFrameAnswered_requests : (Request.mk 21 65535 []).kind < 256 ∧ ¬ (21 ≤ 20) ∧
    (Request.mk 7 1 [0, 0]).payload.length ≠ requiredLength 7 [0, 0] ∧ (Request.mk 4 1 [3]).payload = [3] ∧
    (Request.mk 17 1 [4, 0]).payload = [4, 0] ∧ (Request.mk 3 1 [0, 2, 0, 0, 0, 0, 0, 0]).payload.length = 8 ∧
    (Request.mk 14 7 (List.replicate 131 0)).payload.length ≤ 131 := by decide +kernel
theorem test_meets_RequestsTurnedAway : (Instr.take 9).wf = true ∧ requestOf (.take 9) = some ⟨14, 9, []⟩ ∧
    (hand idle 4 1).port.service = some ⟨4, 1, none⟩ ∧ State.reset.port.service = none ∧ State.reset.sweeping = true := by
  decide +kernel
theorem test_meets_ReplyEndFreesPort :
    (let p : HostPort := (hand idle 4 1).port.push ⟨.reply, 4, 1, .ok, []⟩
     p.line = some ⟨.reply, 4, 1, .ok, []⟩ ∧ p.service = some ⟨4, 1, none⟩) ∧
    (let p : HostPort := (hand idle 20 1).port.push ⟨.reply, 20, 1, .ok, []⟩
     p.line = some ⟨.reply, 20, 1, .ok, []⟩ ∧ p.service = some ⟨20, 1, none⟩) ∧
    (idle.port.push ⟨.plain, 0, 0, .badFrame, []⟩).line = some ⟨.plain, 0, 0, .badFrame, []⟩ ∧
    (idle.port.push ⟨.owed, 0, 0, .busy, []⟩).line = some ⟨.owed, 0, 0, .busy, []⟩ ∧
    [OwedAnswer.mk 4 1 .busy true].find? OwedAnswer.due = some ⟨4, 1, .busy, true⟩ ∧
    idle.port.owed.find? OwedAnswer.due = none ∧ idle.port.line = none ∧
    (idle.port.push ⟨.owed, 0, 0, .busy, []⟩).line ≠ none := by decide +kernel

/-- A request that arrives at an idle port is given. -/
theorem given_idle (s : State) (kind tag : Nat) (c : Instr) (h : s.port.service = none) (h1 : s.sweeping = false) :
    s.given kind tag c := .inr ⟨h, .inl h1⟩

/-- The three byte sets of a STATUS block at OFFLINE, with nothing pending. -/
theorem test_status_at_offline : (idle.statusBytes.drop 77).take 4 = [0, 0, 0, 0] ∧ idle.statusBytes.length = 81 := by
  decide +kernel
theorem test_meets_ReportingRequestsAnswer : State.reset.given 1 7 (.status 7) ∧ idle.given 18 7 (.frames 7 127 1) ∧
    127 ≤ 127 ∧ 127 + 1 ≤ 128 ∧ idle.given 19 7 (.poison 7) ∧ idle.given 18 7 (.frames 7 127 2) ∧ 128 < 127 + 2 :=
  ⟨.inr ⟨rfl, .inr rfl⟩, given_idle _ _ _ _ rfl rfl, by decide, by decide, given_idle _ _ _ _ rfl rfl,
    given_idle _ _ _ _ rfl rfl, by decide⟩
theorem test_meets_ConfigLaneApplies : (∀ v, serving.given 2 1 (.configLane 1 v) ∧ idle.given 2 1 (.configLane 1 v)) ∧
    serving.isOffline = false ∧ idle.isOffline = true ∧ 2 < 3 ∧ 1 < 2 ∧
    (let p : State := { mapped with config := { mapped.config with pace := 0 } }
     p.isOffline = true ∧ p.config.pace = 0 ∧ p.patrol.pass = none ∧
      (walkOrder p.patrol.walk).find? (fun i => p.eligible i) = some 0) ∧
    (walkOrder idle.patrol.walk).find? (fun i => idle.eligible i) = none :=
  ⟨fun _ => ⟨given_idle _ _ _ _ rfl rfl, given_idle _ _ _ _ rfl rfl⟩, by decide +kernel⟩
theorem test_meets_StopRequestByMode : serving.lane.mode = some .service ∧ voting.vote.state = .opened ∧
    landing.lane.mode = some .joining ∧ idle.lane.mode = some .offline ∧ serving.serve = none ∧
    (donor .bulk).serve = some (Serve.begin .u [0]) ∧ (donor .bulk).serving .u = true ∧ (donor .bulk).serving .v = false ∧
    ({ voting.peerU with state := .joining } : PeerRecord).state = .joining := by decide +kernel
theorem test_meets_StopAndRestartRequests : idle.given 5 1 (.stop 1) ∧ serving.given 5 1 (.stop 1) ∧
    idle.given 20 1 (.restart 1) ∧ idle.inService = false ∧ serving.inService = true :=
  ⟨given_idle _ _ _ _ rfl rfl, given_idle _ _ _ _ rfl rfl, given_idle _ _ _ _ rfl rfl, by decide +kernel⟩
theorem test_meets_ConfigRegionActs :
    serving.given 3 1 (.configRegion 1 15 104 16 1 0) ∧ idle.given 3 1 (.configRegion 1 15 104 16 1 0) ∧
    idle.given 3 1 (.configRegionClear 1 15) ∧ mapped.given 3 1 (.configRegionClear 1 0) ∧ serving.isOffline = false ∧
    mapped.isOffline = true ∧ 104 + 16 ≤ 120 ∧ 1 = RegionClass.code .vital ∧
    (∀ k r, k ≠ 15 → idle.region k = some r → r.first + r.count ≤ 104 ∨ 104 + 16 ≤ r.first) ∧ ¬ (16 : Nat) ≤ 15 := by
  refine ⟨given_idle _ _ _ _ rfl rfl, given_idle _ _ _ _ rfl rfl, given_idle _ _ _ _ rfl rfl, given_idle _ _ _ _ rfl rfl,
    rfl, rfl, by decide, rfl, fun k r _ h => ?_, by decide⟩
  simp [State.region, idle, State.reset, tableGet_replicate] at h
theorem test_meets_RegionUnmapped : mapped.PoolLaw ∧ idle.region 0 = none ∧
    (mapped.region 0).map Region.pages = some [0] ∧ (mapped.frame 0).page = some 0 ∧ (mapped.frame 127).page = none ∧
    (movingOffline 5).isOffline = true ∧ (movingOffline 5).page 1 = .moving 1 2 5 false false ∧
    (movingOffline 5).unmapRaises 1 = [.retire 1 1 .abandoned] ∧ (patrolling 0 5 0).patrol.pass = some ⟨0, 5, 0, false⟩ :=
  ⟨mapped_pool, by decide +kernel⟩
theorem test_meets_OpenTakenOrRefused : serving.given 4 1 (.openCold 1) ∧ mapped.given 4 1 (.openJoin 1) ∧
    serving.lane.mode = some .service ∧ mapped.lane.mode = some .offline ∧ mapped.pagesToMap.length ≤ mapped.countFrames .free ∧
    (let full : State := { mapped with
      pages := tableSet mapped.pages 0 .unmapped
      frames := Vector.replicate 128 ⟨.retired, 0, false, none⟩ }
     full.countFrames .free < full.pagesToMap.length) :=
  ⟨given_idle _ _ _ _ rfl rfl, given_idle _ _ _ _ rfl rfl, by decide +kernel⟩
/-- The defined regions of the mapped image, by id. -/
theorem mapped_regions (id : Nat) : mapped.region id = if id = 1 then some ⟨1, 1, .lane, 1, zeroImage 1 1, .clean⟩
    else if id = 0 then some ⟨0, 1, .vital, 3, zeroImage 1 3, .clean⟩ else none := by
  rcases id with _ | _ | n
  · decide +kernel
  · decide +kernel
  · rw [if_neg (by omega), if_neg (by omega)]
    refine (tableGet_tableSet_ne _ _ _ (by omega)).trans ((tableGet_tableSet_ne _ _ _ (by omega)).trans ?_)
    exact tableGet_replicate _ _ _
/-- The regions of the mapped image lie apart in the page space, and no other page is mapped. -/
theorem mapped_law : mapped.RegionLaw := by
  refine ⟨fun id r h => ?_, fun i j r q hi hj hij => ?_, fun page h => ?_⟩
  · rw [mapped_regions] at h
    split at h
    · cases h; decide
    · split at h <;> cases h; decide
  · rw [mapped_regions] at hi hj
    split at hi <;> split at hj <;> (try split at hi) <;> (try split at hj) <;> cases hi <;> cases hj <;>
      first | (exfalso; omega) | decide
  · rcases page with _ | _ | n
    · decide +kernel
    · decide +kernel
    · have hp : mapped.page (n + 2) = .unmapped :=
        (tableGet_tableSet_ne _ _ _ (by omega)).trans
          ((tableGet_tableSet_ne _ _ _ (by omega)).trans (tableGet_replicate _ _ _))
      rw [hp] at h; cases h
theorem test_meets_MappingEndSettles :
    let s : State := { hand mapped 4 1 with opening := some ⟨.cold, .mapping, 0⟩ }
    s.RegionLaw ∧ s.opening = some ⟨.cold, .mapping, 0⟩ ∧ s.restartDue = false ∧ s.port.service = some ⟨4, 1, none⟩ ∧
      (s.region 0).map Region.cls = some .vital ∧ (s.region 1).map Region.cls = some .lane ∧ s.region 2 = none ∧
      s.page 0 = .active 0 ∧ s.pagesToMap.length ≤ s.countFrames .free ∧ (s.frame 0).state ≠ .free ∧
      ({ s with restartDue := true } : State).restartDue = true ∧
      (let u : State := { s with pages := tableSet s.pages 0 .unmapped }
       u.page 0 = .unmapped ∧ u.pagesToMap = [0] ∧ u.pagesToMap.length ≤ u.countFrames .free) ∧
      (patrolling 0 5 0).patrol.pass = some ⟨0, 5, 0, false⟩ ∧ 0 < s.config.pace ∧
      (patrolling 1 5 0).patrol.pass = some ⟨1, 5, 0, false⟩ :=
  ⟨mapped_law, by decide +kernel⟩
theorem test_meets_MappingAllocatesLowestFree : mapped.page 2 = .unmapped ∧ mapped.lowestFree = some 2 ∧ mapped.mem.wf ∧
    mapped.page 119 = .unmapped ∧ (mapped.page 0).mapped = true := by decide +kernel
theorem test_meets_OpenColdFillsAndCompletes :
    let s : State := { hand mapped 4 1 with opening := some ⟨.cold, .filling [(0, 255)], 0⟩ }
    s.opening = some ⟨.cold, .filling [(0, 255)], 0⟩ ∧ [(0, 255)].find? (fun e => e.1 == 0) = some (0, 255) ∧
      ({ s with opening := some ⟨.cold, .filling [], 0⟩ } : State).opening = some ⟨.cold, .filling [], 0⟩ ∧
      s.port.service = some ⟨4, 1, none⟩ := by decide +kernel
theorem test_meets_ReadWriteChecked :
    (∀ c, serving.given 6 1 c ∧ serving.given 7 1 c ∧ mapped.given 6 1 c ∧ mapped.given 7 1 c) ∧ 30720 < 30719 + 2 ∧
    runPages 255 2 = [0, 1] ∧ runPages 192 64 = [0] ∧ runPages 30719 1 = [119] ∧
    (runPages 0 64).findSome? (serving.pageRefusal true) = none ∧ (runPages 30656 64).findSome? (serving.pageRefusal true) = some .notMapped ∧
    (runPages 0 1).findSome? (mapped.pageRefusal false) = some .wrongMode ∧
    (let s : State := { serving with pages := tableSet serving.pages 1 (.poisoned 1) }
     (runPages 256 1).findSome? (s.pageRefusal true) = some .unreadable ∧
      (runPages 256 1).findSome? (s.pageRefusal false) = none) :=
  ⟨fun _ => ⟨given_idle _ _ _ _ rfl rfl, given_idle _ _ _ _ rfl rfl, given_idle _ _ _ _ rfl rfl, given_idle _ _ _ _ rfl rfl⟩,
    by decide +kernel⟩
theorem test_meets_CorrectingReadByCheckState :
    (serving.cell 0 255).content = .clean 0 ∧ ((withCell serving 0 0 ⟨5, .single 5⟩).cell 0 0).content = .single 5 ∧
    (withCell serving 0 0 ⟨5, .single 5⟩).mem.wf ∧ ((withCell serving 0 0 ⟨5, .double⟩).cell 0 0).content = .double ∧
    ((serving.regionOf 0).map fun x => (x.1, x.2.cls)) = some (0, .vital) ∧
    ((serving.regionOf 1).map fun x => (x.1, x.2.cls)) = some (1, .lane) ∧
    serving.poison.length < 32 ∧ 32 ≤ (List.replicate 32 (PoisonEntry.mk 300 .read 0)).length ∧
    serving.page 0 = .active 0 ∧ (moving 5).page 1 = .moving 1 2 5 false false ∧ 4 < 5 ∧ 5 ≤ 5 ∧
    (serving.frame 0).page = some 0 ∧ serving.config.retire ≤ 4 := by decide +kernel
theorem test_meets_HostReadWordGoesOn :
    let s : State := { hand serving 6 1 with run := some (.reading 255 2 []) }
    s.run = some (.reading 255 2 []) ∧ s.readWord 0 255 .read = (s, some 0) ∧ s.port.service = some ⟨6, 1, none⟩ ∧
      (withCell s 0 255 ⟨5, .double⟩).readWord 0 255 .read = (((withCell s 0 255 ⟨5, .double⟩).readWord 0 255 .read).1, none) ∧
      ((withCell s 0 255 ⟨5, .double⟩).readWord 0 255 .read).1.port.service = some ⟨6, 1, none⟩ := by decide +kernel
theorem test_meets_WriteSetsWordAndDigest : (serving.page 0).frameAt 255 = some 0 ∧ serving.mem.wf ∧
    (serving.regionOf 0).isSome = true ∧ ((moving 5).page 1).alsoWritten 4 = some 1 ∧ ((moving 5).page 1).frameAt 4 = some 2 ∧
    (patrolling 0 5 0).patrol.pass = some ⟨0, 5, 0, false⟩ := by decide +kernel
theorem test_meets_HostWriteWordGoesOn :
    let s : State := { hand serving 7 1 with run := some (.writing 0 [3, 4] 0) }
    s.run = some (.writing 0 [3, 4] 0) ∧ s.port.service = some ⟨7, 1, none⟩ ∧ s.isVital 0 = true ∧ s.inService = true ∧
      mapped.inService = false ∧ s.isVital 1 = false ∧ s.serve = none ∧
      (donor .bulk).serve = some ((Serve.begin .u [0])) ∧ (Serve.begin .u [0]).captures 0 = false ∧
      ({ Serve.begin .u [0] with phase := .final, finalSet := [0] } : Serve).captures 0 = true ∧
      ({ Serve.begin .u [] with pendingCycle := some 4, finalSet := [0] } : Serve).captures 0 = true ∧
      ((donor .final).readRun 0 .capture 0 256).2 = some (List.replicate 256 0) ∧
      ((withCell (donor .final) 0 255 ⟨0, .double⟩).readRun 0 .capture 0 256).2 = none ∧
      (let d := withCell (donor .final) 0 255 ⟨0, .double⟩
       (d.readWord 0 254 .capture).2 = some 0 ∧ (d.readWord 0 255 .capture).2 = none ∧
        (d.readRun 0 .capture 254 2).2 = none ∧ (d.readRun 0 .capture 254 1).2 = some [0]) := by decide +kernel
theorem test_meets_FillWritesWholePage : (∀ c, serving.given 8 1 c) ∧ 119 < 120 ∧ (serving.page 119).mapped = false ∧
    (serving.page 0).mapped = true ∧ serving.isVital 0 = true ∧ (serving.page 1).mapped = true ∧ serving.isVital 1 = false ∧
    serving.mem.wf ∧ (serving.regionOf 1).map Prod.fst = some 1 ∧
    (patrolling 1 5 0).patrol.pass = some ⟨1, 5, 0, false⟩ ∧ (patrolling 0 5 0).patrol.pass = some ⟨0, 5, 0, false⟩ :=
  ⟨fun _ => given_idle _ _ _ _ rfl rfl, by decide +kernel⟩
theorem test_meets_AdoptRecomputesDigest : (∀ c, serving.given 9 1 c) ∧ serving.PoolLaw ∧ serving.restartDue = false ∧
    (serving.region 0).map Region.cls = some .vital ∧ (serving.region 1).map Region.cls = some .lane ∧
    (serving.region 1).map (fun r => r.pages.all fun p => (serving.page p).mapped) = some true ∧ serving.mem.wf ∧
    (let s : State := { serving with pages := tableSet serving.pages 1 .unmapped }
     (s.region 1).map (fun r => r.pages.any fun p => !(s.page p).mapped) = some true) ∧
    ({ serving with restartDue := true } : State).restartDue = true ∧
    ((withCell serving 1 0 ⟨5, .double⟩).cell 1 0).content = .double ∧
    ((withCell serving 1 0 ⟨5, .single 6⟩).cell 1 0).content = .single 6 ∧ ((moving 5).page 1).alsoWritten 4 = some 1 :=
  ⟨fun _ => given_idle _ _ _ _ rfl rfl, mapped_pool, by decide +kernel⟩
theorem test_meets_CycleCloseChecked : (∀ c, serving.given 10 1 c ∧ mapped.given 10 1 c ∧ voting.given 10 1 c) ∧
    mapped.inService = false ∧ serving.vote.lastClosed < 4294967295 ∧ serving.vote.state ≠ .opened ∧
    voting.vote.state = .opened ∧ voting.decideVote.inService = false ∧
    (let s : State := { voting with peerU := { voting.peerU with state := .present, held := some [(16, 1)] } }
     s.decideVote.inService = true) ∧
    (let s : State := { serving with vote := { serving.vote with lastClosed := 4294967295 } }
     4294967295 ≤ s.vote.lastClosed ∧ s.inService = true) :=
  ⟨fun _ => ⟨given_idle _ _ _ _ rfl rfl, given_idle _ _ _ _ rfl rfl, given_idle _ _ _ _ rfl rfl⟩, by decide +kernel⟩
theorem test_meets_AdvanceReadsGates :
    let s : State := { hand serving 10 1 with advance := some ⟨1, [5], []⟩ }
    s.advance = some ⟨1, 5 :: [], []⟩ ∧ s.port.service = some ⟨10, 1, none⟩ ∧ s.restartDue = false ∧
      s.readWord 0 5 .gate = (s, some 0) ∧ ((withCell s 0 5 ⟨5, .double⟩).readWord 0 5 .gate).2 = none ∧
      ({ withCell s 0 5 ⟨5, .double⟩ with restartDue := true } : State).restartDue = true := by decide +kernel
theorem test_meets_CloseCompletes :
    let s : State := { hand serving 10 1 with advance := some ⟨1, [], []⟩ }
    s.advance = some ⟨1, [], []⟩ ∧ s.port.service = some ⟨10, 1, none⟩ ∧ s.restartDue = false ∧ s.inService = true ∧
      s.peerU.state = .absent ∧ s.peerU.early = none ∧ (hand mapped 10 1).inService = false ∧
      (let p : PeerRecord := { s.peerU with state := .present, early := some ⟨1, true, [(16, 1)]⟩ }
       (p.promote 1).state = .present ∧ (p.promote 1).held = some [(16, 1)]) := by decide +kernel
/-- Regions and records for the closing list: a VITAL region and a LANE one, and a record of every state. -/
theorem test_meets_CloseCompletes_list : (mapped.region 0).map Region.cls = some .vital ∧
    (mapped.region 1).map Region.cls = some .lane ∧ (mapped.lock 47).timer.state = .idle ∧
    ((withLock mapped ⟨.running, some .plain, none, 120, none, 119, false⟩).lock 0).timer.state = .running ∧
    (withLock mapped ⟨.running, some .plain, none, 120, none, 119, false⟩).closingList =
      [(0, zeroImage 1 3), (16, Fin.ofNat 65537 57422)] ∧
    ((withLock mapped ⟨.expired, some .plain, none, 1, none, -4095, true⟩).lock 0).timer.state = .expired := by decide +kernel
theorem test_meets_LockStepTable : gateZero [(5, 0)] (some 5) = true ∧ gateZero [(5, 1)] (some 5) = false ∧
    [(5, (0 : Word))].find? (fun e => e.1 == 5) = some (5, 0) ∧ ((2 : Int) ≤ 2 ∧ (-4095 : Int) < -4094) := by decide +kernel
theorem test_meets_LockArmActs : (∀ c, serving.given 11 1 c ∧ mapped.given 11 1 c) ∧ mapped.inService = false ∧
    serving.inService = true ∧ 47 ≤ 47 ∧ serving.isVital (255 / 256) = true ∧ serving.isVital (256 / 256) = false ∧
    (serving.lock 47).timer.state = .idle ∧ 3 = LockMode.code .rearm ∧
    (let s := withLock serving ⟨.running, some .rearm, some 5, 3, none, 2, false⟩
     (∀ c, s.given 11 1 c) ∧ (s.lock 0).timer.state = .running ∧ (s.lock 0).timer.mode = some .rearm ∧
      (s.lock 0).timer.gate = some 5) := by
  refine ⟨fun _ => ⟨given_idle _ _ _ _ rfl rfl, given_idle _ _ _ _ rfl rfl⟩, rfl, rfl, by decide, by decide +kernel,
    by decide +kernel, by decide +kernel, rfl, fun _ => given_idle _ _ _ _ rfl rfl, by decide +kernel⟩
theorem test_meets_LockCancelAndRead :
    let s := withLock serving ⟨.expired, some .plain, none, 3, none, -4095, true⟩
    (∀ c, s.given 12 1 c ∧ s.given 13 1 c ∧ mapped.given 12 1 c ∧ mapped.given 13 1 c) ∧ s.inService = true ∧
      mapped.inService = false ∧ (s.lock 0).timer.state ≠ .idle ∧ (s.lock 47).timer.state = .idle ∧ 47 + 1 ≤ 48 ∧
      48 < 47 + 2 := by
  refine ⟨fun _ => ⟨given_idle _ _ _ _ rfl rfl, given_idle _ _ _ _ rfl rfl, given_idle _ _ _ _ rfl rfl,
    given_idle _ _ _ _ rfl rfl⟩, rfl, rfl, by decide +kernel, by decide +kernel, by decide, by decide⟩
theorem test_meets_TakeAndDone :
    let s := (idle.raise (.lock 3 .expired)).raise (.link 1 .late)
    let t : State := { s with attention := s.attention.takeClass 3 }
    (∀ c, s.given 14 1 c ∧ idle.given 14 1 c ∧ t.given 15 1 c ∧ idle.given 15 1 c) ∧ s.attention.lowest ≤ 7 ∧
      s.attention.eligible 3 = true ∧ (List.range 8).all (fun j => !s.attention.eligible j || s.attention.rank 3 ≤ s.attention.rank j) = true ∧
      (List.range 8).all (fun j => !idle.attention.eligible j) = true ∧ (t.attention.cls 3).inService = true ∧
      (List.range 8).all (fun j => !(t.attention.cls j).inService || t.attention.rank 3 ≤ t.attention.rank j) = true ∧
      (t.attention.cls 7).inService = false ∧ (List.range 8).all (fun j => !(idle.attention.cls j).inService) = true := by
  refine ⟨fun _ => ⟨given_idle _ _ _ _ rfl rfl, given_idle _ _ _ _ rfl rfl, given_idle _ _ _ _ rfl rfl,
    given_idle _ _ _ _ rfl rfl⟩, by decide +kernel⟩
theorem test_meets_MaskAndPriority : (∀ c, idle.given 16 1 c ∧ idle.given 17 1 c) ∧ idle.attention.lowest = 7 ∧ 7 < 8 :=
  ⟨fun _ => ⟨given_idle _ _ _ _ rfl rfl, given_idle _ _ _ _ rfl rfl⟩, by decide +kernel⟩
/-- R166: with lowest class 7 class k ranks k; with lowest class 3 class 4 ranks highest and class 3 last. -/
theorem test_rank : (List.range 8).map Attention.cleared.rank = [0, 1, 2, 3, 4, 5, 6, 7] ∧
    (List.range 8).map ({ Attention.cleared with lowest := 3 } : Attention).rank = [4, 5, 6, 7, 0, 1, 2, 3] ∧
    (List.range 8).map ({ Attention.cleared with lowest := 0 } : Attention).rank = [7, 0, 1, 2, 3, 4, 5, 6] := by decide +kernel
/-- R59: with P = 0 a pass is halted. Log 42: a CLEAN VITAL region is eligible with its page RESTORING. -/
theorem test_meets_PatrolStepReads_halted :
    let s : State := { patrolling 0 5 0 with config := { serving.config with pace := 0 } }
    s.config.pace = 0 ∧ s.patrol.pass = some ⟨0, 5, 0, false⟩ ∧ landing.eligible 0 = true ∧
      (landing.page 0).isRestoring = true := by decide +kernel
theorem test_meets_PatrolStepReads :
    let s := patrolling 0 255 0
    s.patrol.pass = some ⟨0, 255, 0, false⟩ ∧ (s.region 0).map Region.words = some 256 ∧ 0 < s.config.pace ∧
      s.readWord 0 255 .patrol = (s, some 0) ∧ ((withCell s 0 255 ⟨0, .double⟩).readWord 0 255 .patrol).2 = none ∧
      (0 : Digest) + Fin.ofNat 65537 1 * weight 3 255 ≠ zeroImage 1 3 ∧ (patrolling 0 254 0).patrol.pass = some ⟨0, 254, 0, false⟩ ∧
      (serving.region 1).map Region.cls = some .lane ∧ (walkOrder none).find? (fun id => serving.eligible id) = some 0 ∧
      (walkOrder none).find? (fun id => idle.eligible id) = none := by decide +kernel
theorem test_meets_MoveTakeDecides :
    let s : State := { serving with moveQueue := [1, 0] }
    s.moveQueue = 1 :: [0] ∧ s.moving = none ∧ 0 < s.config.pace ∧ s.mapping = false ∧ (s.frame 1).page = some 1 ∧
      s.page 1 = .active 1 ∧ s.lowestFree = some 2 ∧ s.mem.wf ∧ crowded.lowestFree = none ∧ crowded.page 1 = .active 1 ∧
      (crowded.frame 1).page = some 1 ∧ (s.frame 127).page = none := by decide +kernel
theorem test_meets_MoveStepCopies :
    [0, 254, 255].all (fun c => decide ((moving c).moving = some 1 ∧ (moving c).page 1 = .moving 1 2 c false false ∧
      0 < (moving c).config.pace ∧ ((moving c).frame 1).page = some 1 ∧ (moving c).mem.wf)) = true ∧
    ((withCell (moving 255) 1 255 ⟨0, .double⟩).cell 1 255).content = .double ∧
    ((withCell (moving 0) 1 0 ⟨0, .single 0⟩).cell 1 0).content = .single 0 := by decide +kernel
theorem test_meets_WindowExpiryDecides : voting.vote.window = some 100 ∧ voting.vote.ownList = some [(16, 1)] ∧
    voting.lane.mode = some .service ∧ judgeLists 0 1 2 [(16, 1)] voting.peerU.held voting.peerV.held = (.alone, 1, none) ∧
    ({ voting.peerU with state := .divergent } : PeerRecord).misses = true ∧
    judgeLists 0 1 2 [(16, 1)] (some [(16, 1)]) (some [(16, 1)]) = (.agreed, 3, none) ∧
    judgeLists 0 1 2 [(16, 1)] (some [(16, 1)]) (some [(16, 2)]) = (.peerDivergent, 3, some 2) ∧
    judgeLists 0 1 2 [(16, 1)] (some [(16, 2)]) (some [(16, 2)]) = (.outvoted, 3, some 0) ∧
    judgeLists 0 1 2 [(16, 1)] (some [(16, 2)]) none = (.noMajority, 2, none) := by decide +kernel
theorem test_meets_DigestArrival : voting.peerLane .u = 1 ∧ listFits [(4, 1), (16, 1)] = true ∧ listFits [(16, 1), (4, 1)] = false ∧
    voting.inService = true ∧ 5 = voting.vote.lastClosed ∧ voting.vote.state = .opened ∧ voting.vote.lastClosed < 6 ∧
    voting.peerU.early = none ∧ landing.inService = false ∧ landing.isJoining = true ∧ idle.isJoining = false ∧
    readList [0x0200#16, 0#16] = none ∧ readList [0x0110#16, 1#16] = none ∧ readList [0x0110#16, 0#16] ≠ none ∧
    (let p : PeerRecord := { voting.peerU with state := .present, held := some [(16, 1)] }
     p.state = .present ∧ p.held.isSome = true ∧ voting.peerV.state ≠ .present) := by decide +kernel
theorem test_meets_TimersExpire : serving.lane.deadline = some 1500 ∧ serving.inService = true ∧
    serving.health.wave = some ⟨.aHigh, 10, 10⟩ ∧ ({ Link.cleared with timer := some 9 } : Link).timer = some 9 ∧
    serving.serving .u = false ∧ (donor .bulk).serving .u = true := by decide +kernel
theorem test_meets_LinkFrameReceived : (LinkFrame.mk 0 (.digest 4294967295 true [(0, 65536), (16, 3)])).fits = true ∧
    (LinkFrame.mk 2 (.page 119 128 (List.replicate 128 7))).fits = true ∧
    (LinkFrame.mk 0 (.lockImage (List.replicate 48 LockTimer.idle))).fits = true ∧ idle.sweep = none ∧
    (idle.link .u).rx = [] ∧ (idle.link .u).up = false ∧ (0x2004#16).toNat % 4096 = [0, (0 : Word)].length + 2 ∧
    checkLinkFrame [0x5AC3#16, 0x2004#16, 0, 0] = none := by decide +kernel
/-- R161, R188: with a right check word, kinds 9 and 15, a JOIN-ASK of 5 words, an odd DIGEST, a JOIN-OFFER of 4 words and a
PAGE whose count is not its length less 6 fail; the same PAGE with its count does not. -/
theorem test_link_frame_check :
    let framed := fun (ws : List Word) => (0x5AC3#16 : Word) :: (ws ++ [crcWords ws])
    checkLinkFrame (framed [0x9004#16, 0]) = none ∧ checkLinkFrame (framed [0xF003#16]) = none ∧
      checkLinkFrame (framed [0x2005#16, 0, 0]) = none ∧ checkLinkFrame (framed [0x3004#16, 0]) = none ∧
      checkLinkFrame (framed [0x1009#16, 0, 0, 0, 0, 0, 0]) = none ∧
      checkLinkFrame (framed [0x6007#16, 0, 0, 2, 9]) = none ∧
      checkLinkFrame (framed [0x6007#16, 0, 0, 1, 9]) = some (.page 0 0 [9]) ∧
      checkLinkFrame (framed [0x2004#16, 0]) = some (.joinAsk 0) ∧ (0x9004#16).toNat % 4096 = 2 + 2 := by decide +kernel
theorem test_meets_LinkLineEvents : ({ idle with linkU := { idle.linkU with rx := [syncWord] } } : State).linkU.rx = syncWord :: [] ∧
    (let l : Link := { idle.linkU with leaving := some (⟨0, .joinAsk⟩, .control), control := [⟨0, .joinAsk⟩], bulk := [⟨0, .joinAsk⟩] }
     l.leaving = some (⟨0, .joinAsk⟩, .control) ∧ l.control = ⟨0, .joinAsk⟩ :: [] ∧ l.bulk = ⟨0, .joinAsk⟩ :: []) ∧
    (let f : LinkFrame := ⟨0, .page 0 0 [7]⟩
     let l : Link := { idle.linkU with leaving := some (f, .bulk), bulk := [f, f] }
     l.control = [] ∧ l.bulk.length = 2 ∧ (donor .bulk).serve = some (Serve.begin .u [0]) ∧ (Serve.begin .u [0]).receiver = .u ∧
      idle.serving .u = false ∧ [f].length ≠ 2) ∧
    idle.sweep = none ∧ idle.linkU.leaving = none ∧ idle.linkU.control = [] ∧ idle.linkU.bulk = [] ∧
    (LinkFrame.mk 0 (.digest 1 true [])).isDigest = true ∧ (LinkFrame.mk 0 .joinAsk).isDigest = false := by decide +kernel
/-- R158, R159: a bulk frame leaves at once on a quiet line, and waits behind another that is leaving. -/
theorem test_put_bulk :
    let f : LinkFrame := ⟨0, .page 0 0 [7]⟩
    let g : LinkFrame := ⟨0, .joinAsk⟩
    let l := idle.linkU.putBulk 3 f
    l.leaving = some (f, .bulk) ∧ l.bulk = [] ∧ l.idleFrom = 3 ∧ (l.putBulk 4 f).bulk = [f] ∧
      (l.putBulk 4 f).leaving = some (f, .bulk) ∧
      (({ idle.linkU with control := [g] } : Link).putBulk 3 f).leaving = some (g, .control) ∧
      (({ idle.linkU with bulk := [f, g] } : Link).putBulk 3 g).bulk = [g, g] := by decide +kernel
/-- Log 43: a JOIN-ASK of a wrong lane number over the link of the serve's receiver. -/
theorem test_meets_JoinAskJudged_receiver : (donor .bulk).serving .u = true ∧ 2 ≠ (donor .bulk).peerLane .u ∧
    (after (.linkFrameCheck .u [0x5AC3#16, 0x2004#16, 0x0200#16, crcWords [0x2004#16, 0x0200#16]]) (donor .bulk)).serve =
      (donor .bulk).serve := by decide +kernel
theorem test_meets_JoinAskJudged : serving.serving .u = false ∧ (donor .bulk).serving .u = true ∧
    serving.config.serveEnable = true ∧ serving.inService = true ∧ serving.lane.confirmed = true ∧ serving.serve = none ∧
    (donor .bulk).serve ≠ none ∧ serving.vote.lastVerdict = none ∧ mapped.inService = false ∧
    ({ serving with vote := { serving.vote with lastVerdict := some ⟨5, .agreed, 2, none⟩ } } : State).vote.lastVerdict =
      some ⟨5, .agreed, 2, none⟩ := by decide +kernel
theorem test_meets_ServeSendsAndDecides :
    let v := Serve.begin .u [0]
    (donor .bulk).serve = some v ∧ v.phase = .bulk ∧ v.pendingCycle = none ∧ v.nextDirty = some 0 ∧
      ((donor .bulk).link .u).bulk.length < 2 ∧ ((donor .bulk).readRun 0 .send 248 8).2 = some (List.replicate 8 0) ∧
      ((withCell (donor .bulk) 0 255 ⟨0, .double⟩).readRun 0 .send 248 8).2 = none ∧ (donor .bulk).vitalPages = [0] ∧
      v.candidate.length ≤ (donor .bulk).config.finalLimit ∧ v.convergence < 32 ∧
      ({ v with cursor := 0, pendingCycle := some 4 } : Serve).pendingCycle = some 4 ∧
      (donor .final).serve.map Serve.phase = some .final ∧ ({ v with convergence := 32 } : Serve).convergence = 32 ∧
      ({ v with dirty := [3, 7], cursor := 4 } : Serve).nextDirty = some 7 ∧
      ({ v with dirty := [3, 7], cursor := 8 } : Serve).nextDirty = some 3 ∧ ({ v with dirty := [] } : Serve).nextDirty = none := by
  decide +kernel
theorem test_meets_FinalStepsInOrder :
    let v := { Serve.begin .u [] with phase := .final, finalSet := [0], slots := [⟨0, List.replicate 256 7⟩] }
    v.phase = .final ∧ v.slotOf 0 = some ⟨0, List.replicate 256 7⟩ ∧
      v.finalSet.find? (fun q => !v.fullySent.contains q) = some 0 ∧ (donor .final).serve.map Serve.phase = some .final ∧
      ((donor .final).link .u).bulk.length < 2 ∧ ((donor .final).readRun 0 .send 0 8).2 = some (List.replicate 8 0) ∧
      (let x := { v with inSend := some ⟨0, 248, false⟩ }
       let s : State := { withCell (donor .final) 0 255 ⟨0, .double⟩ with serve := some x }
       s.serve = some x ∧ x.phase = .final ∧ x.inSend = some ⟨0, 248, false⟩ ∧ (s.link x.receiver).bulk.length < 2 ∧
        (s.readRun 0 .send 248 s.config.burst).2 = none) ∧
      (let d := { v with fullySent := [0], lockImage := some [], keptList := some [(16, 1)] }
       d.inSend = none ∧ (∀ p ∈ d.finalSet, p ∈ d.fullySent) ∧ d.lockImageQueued = false ∧ d.lockImage = some [] ∧
        d.keptList = some [(16, 1)]) := by decide +kernel
theorem test_meets_AttemptFails : landing.join.map (fun j => (j.silence, j.candidate, j.attempts, j.heard .v)) =
    some (some 1000, some .u, 1, false) ∧ landing.isJoining = true ∧ ({ Join.begin with attempts := 4 } : Join).attempts = 4 ∧
    ({ Join.begin with heardV := true } : Join).heard .v = true ∧ idle.join = none ∧ Join.begin.phase = .waiting ∧
    landing.join.map Join.phase = some .landing := by decide +kernel
theorem test_meets_LandingFrames : landing.join.map (fun j => (j.phase, j.candidate)) = some (.landing, some .u) ∧
    landing.isVital 0 = true ∧ (landing.page 0).isRestoring = true ∧ 128 + 128 ≤ 256 ∧ landing.isVital 1 = false ∧
    (List.replicate 48 LockTimer.idle).all (fun x => landing.timerFits x) = true ∧
    landing.timerFits ⟨.idle, none, none, 1, none, 0, false⟩ = false ∧ idle.join = none ∧
    (let j : Join := { Join.begin with phase := .asked, attempts := 1, candidate := some .u }
     j.phase = .asked ∧ j.candidate = some .u ∧ j.candidate ≠ some .v) ∧ landing.vitalPages.length = 1 ∧
    landing.serving .u = false ∧ (donor .bulk).serving .u = true ∧ (donor .bulk).join = none := by decide +kernel
/-- R72, R90: the bounds of a record in a lock image, and the overrange flag (log 22). -/
theorem test_timer_fits :
    [⟨.running, some .rearm, some 5, 60000, some 1, 60000, false⟩, ⟨.expired, some .plain, none, 1, none, -4095, true⟩,
      ⟨.expired, some .pause, some 255, 1, none, 0, false⟩].all (fun x => landing.timerFits x) = true ∧
    [⟨.running, some .plain, none, 3, none, 4, false⟩, ⟨.running, some .plain, none, 3, none, 0, false⟩,
      ⟨.running, some .plain, some 5, 3, none, 3, false⟩, ⟨.running, some .pause, some 256, 3, none, 3, false⟩,
      ⟨.running, some .pause, some 5, 3, some 4, 3, false⟩, ⟨.expired, some .plain, none, 1, none, -4094, true⟩,
      ⟨.expired, some .plain, none, 0, none, 0, false⟩].all (fun x => !landing.timerFits x) = true := by decide +kernel
theorem test_meets_SyncMarkCompletesJoin :
    let j := { Join.begin with phase := .landing, candidate := some .u, landed := [0], lockImageTaken := true }
    j.phase = .landing ∧ j.candidate = some .u ∧ (∀ p ∈ landing.vitalPages, p ∈ j.landed) ∧ j.lockImageTaken = true ∧
      landing.closingList = [(0, zeroImage 1 3), (16, Fin.ofNat 65537 34553)] ∧ (Join.begin).landed = [] ∧
      landing.patrol.pass = none ∧ 0 < landing.config.pace ∧ (patrolling 1 5 0).patrol.pass ≠ none := by decide +kernel
theorem test_meets_OneWordChangesDigest : 1 ≤ 65536 ∧ (65535 : Nat) < 65536 ∧ (0 : Nat) ≠ 65535 ∧
    ([] : List Nat).length + (List.replicate 4095 0).length < 4096 ∧ (mapped.page 1).frameAt 255 = some 1 := by decide +kernel
theorem test_meets_MemoryStaysCanonical : idle.mem.wf ∧ step idle = .next { idle with time := 1 } :=
  ⟨by decide +kernel, rfl⟩

/-- A mapped image in SERVICE meets the laws that every step keeps, and takes a step. -/
theorem test_meets_AttnFollowsTake : serving.AttnLaw ∧ step serving = .next { serving with time := 1 } := by
  refine ⟨?_, rfl⟩
  unfold State.AttnLaw
  decide +kernel
/-- A timer record that LOCK-ARM or a count leaves in the mapped image. -/
theorem timer_examples : serving.TimerLaw LockTimer.idle ∧
    serving.TimerLaw ⟨.running, some .rearm, some 5, 3, some 60000, 3, false⟩ ∧
    serving.TimerLaw ⟨.expired, some .plain, none, 3, none, -4095, true⟩ := by
  have hv : serving.isVital (5 / 256) = true := by decide +kernel
  simp [State.TimerLaw, State.ArmedLaw, LockTimer.idle, hv]
theorem test_meets_LaneLawKept : serving.LaneLaw ∧ serving.LockLaw ∧ (donor .bulk).LaneLaw ∧ (donor .bulk).ServeLaw := by
  refine ⟨?_, ⟨fun k => ?_, fun h => ?_⟩, ?_, fun v h => ?_⟩
  · unfold State.LaneLaw State.SweepLaw; simp [serving, mapped, idle, State.reset, State.inService]
  · have h : serving.lock k = LockRecord.cleared := tableGet_replicate _ _ _
    rw [h]; exact ⟨timer_examples.1, fun x hx => by cases hx⟩
  · simp [serving] at h
  · unfold State.LaneLaw State.SweepLaw; simp [donor, serving, mapped, idle, State.reset, State.inService]
  · have hv : (donor .bulk).isVital 0 = true := by decide +kernel
    simp only [donor, Option.some.injEq] at h
    subst h
    simp [Serve.begin, hv]
/-- The OFFLINE state has no region, no mapped page, and every frame FREE. -/
theorem idle_empty : (∀ id, idle.region id = none) ∧ (∀ page, idle.page page = .unmapped) ∧
    ∀ k, idle.frame k = FrameRecord.fresh :=
  ⟨fun _ => tableGet_replicate _ _ _, fun _ => tableGet_replicate _ _ _, fun _ => tableGet_replicate _ _ _⟩

theorem test_meets_CapacitiesKept : idle.CapacityLaw ∧ idle.CountLaw ∧ idle.ConfigLaw := by
  refine ⟨⟨by decide, by decide, by decide, by decide, by decide, ?_, ?_⟩, ⟨?_, ?_, ?_, ?_, ?_, by decide⟩, ?_⟩
  · intro p; cases p <;> decide
  · intro p; cases p <;> decide
  · intro f; rw [idle_empty.2.2]; decide
  · intro p; cases p <;> decide
  · intro p; cases p <;> decide
  · intro k
    have h : idle.attention.cls k = ClassRecord.cleared := tableGet_replicate _ _ _
    rw [h]; decide
  · intro p; cases p <;> decide
  · unfold State.ConfigLaw; decide
theorem test_meets_ImageLawKept : idle.mem.wf ∧ idle.LaneLaw ∧ idle.ImageLaw := by
  obtain ⟨hr, hp, hf⟩ := idle_empty
  refine ⟨by decide, ?_, ⟨?_, ?_, ?_⟩, ⟨?_, ?_, ?_, ?_, ?_⟩, ?_, ?_, ?_⟩
  · unfold State.LaneLaw State.SweepLaw; simp [idle, State.reset, State.inService]
  · intro id r h; simp [hr] at h
  · intro i j r q h; simp [hr] at h
  · intro page h; simp [hp, PageEntry.mapped] at h
  · intro page k h; simp [hp, PageEntry.names] at h
  · intro k page h; simp [hf, FrameRecord.fresh] at h
  · intro k h; simp [hf, FrameRecord.fresh] at h
  · intro page f g c p r h; simp [hp] at h
  · intro page h; cases h
  · intro page f g c p r h; simp [hp] at h
  · intro id r h; simp [hr] at h
  · intro kind left n h; cases h

end Sys2Proof.Tests
end

section
/-! The digest formula as a sum over the words of a region (R44), what one changed word does to it (R46), and the
zero-image digest (R45). -/

namespace Sys2Proof.Machine

open scoped Fin.CommRing

/-- The summand of the digest formula for value `w` at region offset `i` (R44). -/
def digestTerm (seed i w : Nat) : Digest := Fin.ofNat 65537 (w + 1) * weight seed i

/-- The digest formula of the values of a function on the offsets `i` to `i + n - 1` (R44). -/
theorem digestFrom_map_range (seed n : Nat) : ∀ (i : Nat) (f : Nat → Nat),
    digestFrom seed i ((List.range n).map f) = ∑ j ∈ Finset.range n, digestTerm seed (i + j) (f j) := by
  induction n with
  | zero => intro i f; rfl
  | succ n ih =>
    intro i f
    rw [List.range_succ_eq_map, List.map_cons, List.map_map, digestFrom, ih, Finset.sum_range_succ', add_comm]
    congr 1
    exact Finset.sum_congr rfl fun j _ => by rw [Nat.add_assoc, Nat.add_comm 1 j]; rfl

/-- The values laid out page after page are those at the region offsets in order (R43). -/
theorem flatMap_pages_eq (n : Nat) (f : Nat → Nat → Nat) :
    ((List.range n).flatMap fun k => (List.range 256).map (f k)) =
      (List.range (n * 256)).map fun i => f (i / 256) (i % 256) := by
  induction n with
  | zero => rfl
  | succ n ih =>
    rw [List.range_succ (n := n), List.flatMap_append, ih, Nat.succ_mul, List.range_add, List.map_append, List.map_map]
    congr 1
    simp only [List.flatMap_cons, List.flatMap_nil, List.append_nil]
    refine List.map_congr_left fun o ho => ?_
    have ho := List.mem_range.mp ho
    simp only [Function.comp_apply]
    congr 1 <;> omega

/-- The digest of a region as the sum over its region offsets (R44). -/
theorem State.regionDigest_eq_sum (s : State) (r : Region) :
    s.regionDigest r = ∑ i ∈ Finset.range (r.count * 256),
      digestTerm r.seed i (s.writtenAt (r.first + i / 256) (i % 256)).toNat := by
  have h : s.regionWords r = (List.range (r.count * 256)).map fun i =>
      (s.writtenAt (r.first + i / 256) (i % 256)).toNat := by
    unfold State.regionWords Region.pages
    rw [List.flatMap_map]
    exact flatMap_pages_eq r.count fun k o => (s.writtenAt (r.first + k) o).toNat
  unfold State.regionDigest digestOf
  rw [h, digestFrom_map_range]
  simp only [Nat.zero_add]

/-- A page of a region, in words (R21). -/
theorem Region.mem_pages {r : Region} {page : Nat} : page ∈ r.pages ↔ r.first ≤ page ∧ page < r.first + r.count := by
  simp only [Region.pages, List.mem_map, List.mem_range]
  constructor
  · rintro ⟨k, hk, rfl⟩; omega
  · intro h; exact ⟨page - r.first, by omega, by omega⟩

/-- Two states with the same written values in a region give it the same digest (R42, R44). -/
theorem State.regionDigest_congr {s t : State} {r : Region}
    (h : ∀ page ∈ r.pages, ∀ o < 256, t.writtenAt page o = s.writtenAt page o) : t.regionDigest r = s.regionDigest r := by
  rw [State.regionDigest_eq_sum, State.regionDigest_eq_sum]
  refine Finset.sum_congr rfl fun i hi => ?_
  have hi := Finset.mem_range.mp hi
  rw [h _ (Region.mem_pages.mpr (by omega)) _ (Nat.mod_lt _ (by decide))]

/-- The term of a change is what it does to the summand of its word (R46). -/
theorem digestTerm_change (seed i : Nat) (v v' : Word) :
    digestTerm seed i v'.toNat = digestTerm seed i v.toNat + changeTerm seed i v v' := by
  have hsucc : ∀ n : Nat, (Fin.ofNat 65537 (n + 1) : Digest) = Fin.ofNat 65537 n + 1 := fun n =>
    (Nat.cast_succ n : ((n + 1 : ℕ) : Fin 65537) = n + 1)
  unfold digestTerm changeTerm
  rw [hsucc, hsucc]
  ring

/-- One written value changed moves the digest of its region by the term of the change (R46). -/
theorem State.regionDigest_change {s t : State} {r : Region} {page offset : Nat} {v : Word} (hp : page ∈ r.pages)
    (ho : offset < 256) (hnew : t.writtenAt page offset = v)
    (hrest : ∀ q ∈ r.pages, ∀ o < 256, q ≠ page ∨ o ≠ offset → t.writtenAt q o = s.writtenAt q o) :
    t.regionDigest r =
      s.regionDigest r + changeTerm r.seed (r.offsetOf page offset) (s.writtenAt page offset) v := by
  have hp := Region.mem_pages.mp hp
  have hi : (page - r.first) * 256 + offset < r.count * 256 := by omega
  have hdiv : r.first + ((page - r.first) * 256 + offset) / 256 = page := by omega
  have hmod : ((page - r.first) * 256 + offset) % 256 = offset := by omega
  have hmem : (page - r.first) * 256 + offset ∈ Finset.range (r.count * 256) := Finset.mem_range.mpr hi
  rw [State.regionDigest_eq_sum, State.regionDigest_eq_sum, ← Finset.add_sum_erase _ _ hmem,
    ← Finset.add_sum_erase (Finset.range (r.count * 256)) _ hmem, hdiv, hmod, hnew, digestTerm_change _ _ (s.writtenAt page offset)]
  have hsame : ∀ i ∈ (Finset.range (r.count * 256)).erase ((page - r.first) * 256 + offset),
      digestTerm r.seed i (t.writtenAt (r.first + i / 256) (i % 256)).toNat =
        digestTerm r.seed i (s.writtenAt (r.first + i / 256) (i % 256)).toNat := by
    intro i hi
    obtain ⟨hne, hlt⟩ := Finset.mem_erase.mp hi
    have hlt := Finset.mem_range.mp hlt
    rw [hrest _ (Region.mem_pages.mpr (by omega)) _ (Nat.mod_lt _ (by decide)) (by omega)]
  rw [Finset.sum_congr rfl hsame]
  unfold Region.offsetOf
  ring

/-- A region whose written values are all 0 has the zero-image digest (R45). -/
theorem State.regionDigest_of_zero {s : State} {r : Region} (h : ∀ page ∈ r.pages, ∀ o < 256, s.writtenAt page o = 0) :
    s.regionDigest r = zeroImage r.count r.seed := by
  have hsum : ∀ n : Nat, ∑ i ∈ Finset.range n, weight r.seed i = Fin.ofNat 65537 (r.seed * (n * (n + 1) / 2)) := by
    intro n
    have hw : ∀ i, weight r.seed i = (((i + 1) * r.seed : ℕ) : Fin 65537) := fun i => rfl
    have hgauss : ∑ i ∈ Finset.range n, (i + 1) = n * (n + 1) / 2 := by
      have := Finset.sum_range_id (n + 1)
      rw [Finset.sum_range_succ'] at this
      simpa [Nat.mul_comm] using this
    simp only [hw]
    rw [← Nat.cast_sum, ← Finset.sum_mul, hgauss, Nat.mul_comm]
    rfl
  rw [State.regionDigest_eq_sum]
  unfold zeroImage
  rw [← hsum]
  refine Finset.sum_congr rfl fun i hi => ?_
  have hi := Finset.mem_range.mp hi
  rw [h _ (Region.mem_pages.mpr (by omega)) _ (Nat.mod_lt _ (by decide))]
  exact one_mul _

end Sys2Proof.Machine
end

section
/-! When two states hold the same image: what most operations of the part keep of the store and the map unit, and that it
carries the laws of the image over (R21, R27, R36, R42). -/

namespace Sys2Proof.Machine

/-! ### Entries and records up to what the laws of the image do not look at -/

/-- A page map entry without its access state and marks (R25). -/
def PageEntry.unmarked : PageEntry → PageEntry
  | .unmapped => .unmapped
  | .active f => .active f
  | .restoring f => .active f
  | .poisoned f => .active f
  | .moving f g c _ _ => .moving f g c false false

/-- A region record without its state (R24). -/
def Region.figures (r : Region) : Region := { r with state := .clean }

/-- A frame record without its correctable count (R7, R27). -/
def FrameRecord.ownership (f : FrameRecord) : FrameRecord := { f with count := 0 }

theorem PageEntry.frameAt_unmarked (e : PageEntry) (o : Nat) : e.unmarked.frameAt o = e.frameAt o := by cases e <;> rfl
theorem PageEntry.mapped_unmarked (e : PageEntry) : e.unmarked.mapped = e.mapped := by cases e <;> rfl
theorem PageEntry.names_unmarked (e : PageEntry) (k : Nat) : e.unmarked.names k ↔ e.names k := by cases e <;> rfl

/-- An entry that is MOVING up to its marks is MOVING (R25). -/
theorem PageEntry.moving_of_unmarked {d e : PageEntry} {f g c : Nat} {p r : Bool} (h : d.unmarked = e.unmarked)
    (he : e = .moving f g c p r) : ∃ p' r', d = .moving f g c p' r' := by
  subst he
  cases d <;> simp [PageEntry.unmarked] at h ⊢
  exact h

/-! ### Words of the image -/

/-- The frame of a word of a page is named by its entry (R25, R36). -/
theorem PageEntry.names_of_frameAt {e : PageEntry} {o k : Nat} (h : e.frameAt o = some k) : e.names k := by
  cases e <;> simp_all [PageEntry.frameAt, PageEntry.names]
  split at h <;> simp_all

/-- The written value of a word of a page with this frame at its offset (R42). -/
theorem State.writtenAt_of_frameAt {s : State} {page o k : Nat} (h : (s.page page).frameAt o = some k) :
    s.writtenAt page o = (s.cell k o).written := by
  unfold State.writtenAt
  rw [h]

/-- A word of an UNMAPPED page counts as 0 (R42). -/
theorem State.writtenAt_of_unmapped {s : State} {page : Nat} (o : Nat) (h : s.page page = .unmapped) :
    s.writtenAt page o = 0 := by
  unfold State.writtenAt
  rw [h]
  rfl

/-- The written value of a word stays where its frame and that frame's word stay (R42). -/
theorem State.writtenAt_congr {s t : State} {page o : Nat} (hf : (t.page page).frameAt o = (s.page page).frameAt o)
    (hc : ∀ k, (s.page page).frameAt o = some k → (t.cell k o).written = (s.cell k o).written) :
    t.writtenAt page o = s.writtenAt page o := by
  unfold State.writtenAt
  rw [hf]
  cases hk : (s.page page).frameAt o with
  | none => rfl
  | some k => exact hc k hk

/-! ### The region of a page -/

/-- A region found for a page is defined and holds it (R21). -/
theorem State.regionOf_some {s : State} {page id : Nat} {r : Region} (h : s.regionOf page = some (id, r)) :
    s.region id = some r ∧ page ∈ r.pages := by
  obtain ⟨j, -, hj⟩ := List.exists_of_findSome?_eq_some h
  split at hj
  · rename_i q hq
    split at hj
    · cases hj; exact ⟨hq, Region.mem_pages.mpr ‹_›⟩
    · cases hj
  · cases hj

/-- A page has a region exactly where a defined region holds it (R21). -/
theorem State.regionOf_isSome {s : State} {page : Nat} :
    (s.regionOf page).isSome ↔ ∃ id r, s.region id = some r ∧ page ∈ r.pages := by
  constructor
  · intro h
    obtain ⟨⟨id, r⟩, h⟩ := Option.isSome_iff_exists.mp h
    exact ⟨id, r, State.regionOf_some h⟩
  · rintro ⟨id, r, hr, hp⟩
    refine List.findSome?_isSome_iff.mpr ⟨id, List.mem_range.mpr (State.region_lt hr), ?_⟩
    simp [hr, Region.mem_pages.mp hp]

/-! ### States with the same image -/

/-- `t` keeps the image of `s`: every written value, every region record but its state, every page entry but its marks,
every frame record but its count, and the page of the move engine. -/
structure State.ImageKept (s t : State) : Prop where
  wf : s.mem.wf → t.mem.wf
  written : s.mem.wf → ∀ k o, (t.cell k o).written = (s.cell k o).written
  regions : ∀ id, (t.region id).map Region.figures = (s.region id).map Region.figures
  pages : ∀ page, (t.page page).unmarked = (s.page page).unmarked
  frames : ∀ k, (t.frame k).ownership = (s.frame k).ownership
  moving : t.moving = s.moving
  fill : s.FillLaw → t.FillLaw

theorem State.ImageKept.trans {s t u : State} (h : s.ImageKept t) (h' : t.ImageKept u) : s.ImageKept u where
  wf hs := h'.wf (h.wf hs)
  written hs k o := (h'.written (h.wf hs) k o).trans (h.written hs k o)
  regions id := (h'.regions id).trans (h.regions id)
  pages page := (h'.pages page).trans (h.pages page)
  frames k := (h'.frames k).trans (h.frames k)
  moving := h'.moving.trans h.moving
  fill hs := h'.fill (h.fill hs)

/-- The fields that the laws of the image speak of. -/
def State.image (s : State) :
    Memory × Vector (Option Region) 16 × Vector PageEntry 120 × Vector FrameRecord 128 × Option Nat × Option Opening :=
  (s.mem, s.regions, s.pages, s.frames, s.moving, s.opening)

/-- A state whose fields of the image are the same keeps the image. -/
theorem State.ImageKept.of_image {s t : State} (h : t.image = s.image) : s.ImageKept t := by
  simp only [State.image, Prod.mk.injEq] at h
  obtain ⟨hm, hr, hp, hf, hv, ho⟩ := h
  exact {
    wf := fun hs => hm ▸ hs
    written := fun _ k o => by simp only [State.cell, hm]
    regions := fun id => by simp only [State.region, hr]
    pages := fun page => by simp only [State.page, hp]
    frames := fun k => by simp only [State.frame, hf]
    moving := hv
    fill := fun hs => by simpa only [State.FillLaw, ho] using hs }

/-- The same, from an equation that says what an operation changes. -/
theorem State.ImageKept.of_eq {s t u : State} (h : t = u) (hu : u.image = s.image) : s.ImageKept t := .of_image (h ▸ hu)

theorem State.ImageKept.refl (s : State) : s.ImageKept s := .of_image rfl

namespace State.ImageKept

variable {s t : State} (h : s.ImageKept t)
include h

/-- A region of the later state stands in the earlier one but for its state (R24). -/
theorem region_before {id : Nat} {r : Region} (hr : t.region id = some r) :
    ∃ q, s.region id = some q ∧ q.figures = r.figures := by
  have := h.regions id
  rw [hr] at this
  exact Option.map_eq_some_iff.mp this.symm

/-- A region of the earlier state stands in the later one but for its state (R24). -/
theorem region_after {id : Nat} {r : Region} (hr : s.region id = some r) :
    ∃ q, t.region id = some q ∧ q.figures = r.figures := by
  have := h.regions id
  rw [hr] at this
  exact Option.map_eq_some_iff.mp this

theorem frameAt (page o : Nat) : (t.page page).frameAt o = (s.page page).frameAt o := by
  rw [← PageEntry.frameAt_unmarked, h.pages, PageEntry.frameAt_unmarked]

theorem mapped (page : Nat) : (t.page page).mapped = (s.page page).mapped := by
  rw [← PageEntry.mapped_unmarked, h.pages, PageEntry.mapped_unmarked]

theorem names (page k : Nat) : (t.page page).names k ↔ (s.page page).names k := by
  rw [← PageEntry.names_unmarked, h.pages, PageEntry.names_unmarked]

theorem frame_fields (k : Nat) : (t.frame k).state = (s.frame k).state ∧ (t.frame k).worn = (s.frame k).worn ∧
    (t.frame k).page = (s.frame k).page := by
  have := h.frames k
  simp only [FrameRecord.ownership, FrameRecord.mk.injEq] at this
  obtain ⟨hst, -, hw, hp⟩ := this
  exact ⟨hst, hw, hp⟩

theorem writtenAt (hs : s.mem.wf) (page o : Nat) : t.writtenAt page o = s.writtenAt page o :=
  State.writtenAt_congr (h.frameAt page o) fun k _ => h.written hs k o

/-! ### The laws carried over -/

theorem regionLaw (hs : s.RegionLaw) : t.RegionLaw := by
  obtain ⟨hin, hapart, hmap⟩ := hs
  have same : ∀ {q r : Region}, q.figures = r.figures → q.first = r.first ∧ q.count = r.count := by
    intro q r hq
    simp only [Region.figures, Region.mk.injEq] at hq
    exact ⟨hq.1, hq.2.1⟩
  refine ⟨fun id r hr => ?_, fun i j r q hr hq hij => ?_, fun page hp => ?_⟩
  · obtain ⟨r', hr', e⟩ := h.region_before hr
    obtain ⟨e1, e2⟩ := same e
    rw [← e1, ← e2]; exact hin id r' hr'
  · obtain ⟨r', hr', e⟩ := h.region_before hr
    obtain ⟨q', hq', d⟩ := h.region_before hq
    obtain ⟨e1, e2⟩ := same e
    obtain ⟨d1, d2⟩ := same d
    rw [← e1, ← e2, ← d1, ← d2]; exact hapart i j r' q' hr' hq' hij
  · obtain ⟨id, r, hr, hm⟩ := State.regionOf_isSome.mp (hmap page (h.mapped page ▸ hp))
    obtain ⟨r', hr', e⟩ := h.region_after hr
    obtain ⟨e1, e2⟩ := same e
    refine State.regionOf_isSome.mpr ⟨id, r', hr', ?_⟩
    rw [Region.mem_pages] at hm ⊢
    rw [e1, e2]; exact hm

theorem poolLaw (hs : s.PoolLaw) : t.PoolLaw := by
  obtain ⟨hown, hback, hworn, hmove, hengine⟩ := hs
  refine ⟨fun page k hk => ?_, fun k page hk => ?_, fun k hk => ?_, fun page f g c p r hp => ?_, fun page hp => ?_⟩
  · obtain ⟨hst, -, hpg⟩ := h.frame_fields k
    rw [hst, hpg]; exact hown page k ((h.names page k).mp hk)
  · obtain ⟨hst, -, hpg⟩ := h.frame_fields k
    rw [hst, h.names]; exact hback k page (hpg ▸ hk)
  · obtain ⟨hst, hw, -⟩ := h.frame_fields k
    rw [hst]; exact hworn k (hw ▸ hk)
  · obtain ⟨p', r', hp'⟩ := PageEntry.moving_of_unmarked (h.pages page).symm hp
    rw [h.moving, (h.frame_fields g).2.1]
    exact hmove page f g c p' r' hp'
  · obtain ⟨f, g, c, p, r, hp'⟩ := hengine page (h.moving ▸ hp)
    exact ⟨f, g, c, PageEntry.moving_of_unmarked (h.pages page) hp'⟩

theorem moveLaw (hwf : s.mem.wf) (hs : s.MoveLaw) : t.MoveLaw := by
  intro page f g c p r hp o ho
  obtain ⟨p', r', hp'⟩ := PageEntry.moving_of_unmarked (h.pages page).symm hp
  rw [h.written hwf, h.written hwf]
  exact hs page f g c p' r' hp' o ho

theorem digestLaw (hwf : s.mem.wf) (hs : s.DigestLaw) : t.DigestLaw := by
  intro id r hr
  obtain ⟨q, hq, e⟩ := h.region_before hr
  have hlive : q.live = r.live := show q.figures.live = r.figures.live by rw [e]
  have hdigest : s.regionDigest q = s.regionDigest r := show s.regionDigest q.figures = s.regionDigest r.figures by rw [e]
  rw [← hlive, hs id q hq, hdigest]
  exact (State.regionDigest_congr fun page _ o _ => h.writtenAt hwf page o).symm

end State.ImageKept

/-- The laws of the image with the canonical form of the memory, which the digest arithmetic reads through. -/
def State.SoundImage (s : State) : Prop := s.mem.wf ∧ s.ImageLaw

/-- A state that keeps a sound image is sound. -/
theorem State.ImageKept.sound {s t : State} (h : s.ImageKept t) (hs : s.SoundImage) : t.SoundImage := by
  obtain ⟨hwf, hregion, hpool, hmove, hdigest, hfill⟩ := hs
  exact ⟨h.wf hwf, h.regionLaw hregion, h.poolLaw hpool, h.moveLaw hwf hmove, h.digestLaw hwf hdigest, h.fill hfill⟩

end Sys2Proof.Machine
end

section
/-! The operations of the part that keep the image: answers, links, lane, vote unit, transfer engine and patrol, which do
not touch it, and the correcting reads, which change stored values, counts and marks alone (R7, R14). -/

namespace Sys2Proof.Machine

/-- A table read after a write gives what it gave before, unless it reads what was written. -/
theorem tableGet_tableSet_or {α : Type} {n : Nat} (t : Vector α n) (i j : Nat) (x d : α) :
    tableGet (tableSet t i x) j d = tableGet t j d ∨ i = j ∧ tableGet (tableSet t i x) j d = x := by
  by_cases hij : i = j
  · subst hij
    by_cases hi : i < n
    · exact .inr ⟨rfl, by rw [tableGet_tableSet t i x d hi, if_pos rfl]⟩
    · exact .inl (by rw [tableGet_of_ge _ d (Nat.not_lt.mp hi), tableGet_of_ge t d (Nat.not_lt.mp hi)])
  · exact .inl (tableGet_tableSet_ne t x d hij)

theorem PageEntry.unmarked_markPoisoned (e : PageEntry) : e.markPoisoned.unmarked = e.unmarked := by cases e <;> rfl
theorem PageEntry.unmarked_releasePoisoned (e : PageEntry) : e.releasePoisoned.unmarked = e.unmarked := by cases e <;> rfl
theorem PageEntry.unmarked_restored (e : PageEntry) : e.restored.unmarked = e.unmarked := by cases e <;> rfl
theorem PageEntry.unmarked_opened (kind : OpenKind) (e : PageEntry) : (e.opened kind).unmarked = e.unmarked := by
  cases kind <;> cases e <;> rfl

namespace State

variable (s : State)

/-! ### The port, the links and the lane -/

theorem imageKept_raise (d : Detail) : s.ImageKept (s.raise d) := .of_image rfl
theorem imageKept_passTo (t : Nat) : s.ImageKept (s.passTo t) := .of_image rfl
theorem imageKept_inHand (kind tag : Nat) : s.ImageKept (s.inHand kind tag) := .of_image rfl
theorem imageKept_takeUp : s.ImageKept s.takeUp := .of_image rfl
theorem imageKept_setHostRx (rx : List Byte) : s.ImageKept (s.setHostRx rx) := .of_image rfl
theorem imageKept_answerNow (kind tag : Nat) (o : ReplyOutcome) : s.ImageKept (s.answerNow kind tag o) := .of_image rfl
theorem imageKept_serve1 (kind tag : Nat) (c : Option Instr) : s.ImageKept (s.serve1 kind tag c) := .of_image rfl
theorem imageKept_owe (kind tag : Nat) (o : ReplyOutcome) (r : PortReason) : s.ImageKept (s.owe kind tag o r) :=
  .of_image rfl
theorem imageKept_reply (o : ReplyOutcome) (bs : List Byte) : s.ImageKept (s.reply o bs) :=
  .of_eq (s.reply_eq o bs) rfl
theorem imageKept_arrive (c : Instr) : s.ImageKept (s.arrive c) := .of_eq (s.arrive_eq c) rfl
theorem imageKept_serve (v : Option Serve) : s.ImageKept { s with serve := v } := .of_image rfl
theorem imageKept_join (j : Option Join) : s.ImageKept { s with join := j } := .of_image rfl
theorem imageKept_run (r : Option HostRun) : s.ImageKept { s with run := r } := .of_image rfl
theorem imageKept_advance (a : Option Advance) : s.ImageKept { s with advance := a } := .of_image rfl
theorem imageKept_patrol (p : Patrol) : s.ImageKept { s with patrol := p } := .of_image rfl
theorem imageKept_port (p : HostPort) : s.ImageKept { s with port := p } := .of_image rfl
theorem imageKept_attention (a : Attention) : s.ImageKept { s with attention := a } := .of_image rfl
theorem imageKept_setLink (port : LinkPort) (l : Link) : s.ImageKept (s.setLink port l) := by
  cases port <;> exact .of_image rfl
theorem imageKept_setPeer (port : LinkPort) (p : PeerRecord) : s.ImageKept (s.setPeer port p) := by
  cases port <;> exact .of_image rfl
theorem imageKept_putControl (port : LinkPort) (b : LinkBody) : s.ImageKept (s.putControl port b) :=
  s.imageKept_setLink _ _
theorem imageKept_putBulk (port : LinkPort) (b : LinkBody) : s.ImageKept (s.putBulk port b) := s.imageKept_setLink _ _
theorem imageKept_checkFail (port : LinkPort) : s.ImageKept (s.checkFail port) :=
  .of_eq (s.checkFail_eq port) rfl
theorem imageKept_endServe (r : RestoreReason) (a : Option RestoreReason) : s.ImageKept (s.endServe r a) :=
  .of_eq (s.endServe_eq r a) rfl
theorem imageKept_stopRequest (c : StopCause) (id : Nat) : s.ImageKept (s.stopRequest c id) :=
  .of_eq (s.stopRequest_eq c id) rfl
theorem imageKept_decideVote : s.ImageKept s.decideVote := .of_eq s.decideVote_eq rfl
theorem imageKept_failAttempt (r : RestoreReason) (a : Option RestoreReason) : s.ImageKept (s.failAttempt r a) :=
  .of_eq (s.failAttempt_eq r a) rfl

theorem imageKept_badFrame : s.ImageKept s.badFrame := by
  unfold badFrame
  split
  · exact s.imageKept_owe _ _ _ _
  · exact (s.imageKept_raise _).trans (imageKept_answerNow _ _ _ _)

/-! ### The patrol's walk -/

theorem imageKept_selectPass : s.ImageKept s.selectPass := .of_eq s.selectPass_eq rfl
theorem imageKept_endPassOn (id : Nat) : s.ImageKept (s.endPassOn id) := .of_eq (s.endPassOn_eq id) rfl

theorem imageKept_selectIfWaiting : s.ImageKept s.selectIfWaiting := by
  unfold selectIfWaiting
  split
  · exact s.imageKept_selectPass
  · exact .refl s

theorem imageKept_restartPassOn (id : Nat) : s.ImageKept (s.restartPassOn id) := by
  unfold restartPassOn
  split
  · split <;> exact .of_image rfl
  · exact .refl s

/-! ### Updates of the tables that the laws of the image do not look at -/

theorem imageKept_setPage {page : Nat} {e : PageEntry} (h : e.unmarked = (s.page page).unmarked) :
    s.ImageKept (s.setPage page e) :=
  { State.ImageKept.refl s with
    pages := fun q => by
      rcases tableGet_tableSet_or s.pages page q e .unmapped with hq | ⟨rfl, hq⟩
      · exact congrArg PageEntry.unmarked hq
      · exact (congrArg PageEntry.unmarked hq).trans h }

theorem imageKept_setFrame {k : Nat} {f : FrameRecord} (h : f.ownership = (s.frame k).ownership) :
    s.ImageKept (s.setFrame k f) :=
  { State.ImageKept.refl s with
    frames := fun j => by
      rcases tableGet_tableSet_or s.frames k j f FrameRecord.fresh with hj | ⟨rfl, hj⟩
      · exact congrArg FrameRecord.ownership hj
      · exact (congrArg FrameRecord.ownership hj).trans h }

variable {s} in
theorem imageKept_setRegion {id : Nat} {r q : Region} (hq : s.region id = some q) (h : r.figures = q.figures) :
    s.ImageKept (s.setRegion id (some r)) :=
  { State.ImageKept.refl s with
    regions := fun j => by
      rcases tableGet_tableSet_or s.regions id j (some r) none with hj | ⟨rfl, hj⟩
      · exact congrArg (Option.map Region.figures) hj
      · rw [hq, Option.map_some, ← h]
        exact congrArg (Option.map Region.figures) hj }

variable {s} in
theorem imageKept_setState {id : Nat} {r : Region} (hr : s.region id = some r) (st : RegionState) :
    s.ImageKept (s.setRegion id (some { r with state := st })) := imageKept_setRegion hr rfl

theorem imageKept_setCell {frame offset : Nat} {c : Cell} (h : c.written = (s.cell frame offset).written) :
    s.ImageKept (s.setCell frame offset c) :=
  { State.ImageKept.refl s with
    wf := fun hs => Memory.wf_set _ _ hs
    written := fun hs k o => by
      simp only [State.cell, State.setCell_mem, Memory.get_set _ _ _ hs]
      split
      · rename_i he
        rw [he]; exact h
      · rfl }

/-! ### Correcting reads -/

theorem imageKept_reportCorrection (frame count : Nat) : s.ImageKept (s.reportCorrection frame count) :=
  .of_eq (s.reportCorrection_eq frame count) rfl

theorem imageKept_poisonWord (page offset : Nat) (src : StoreSource) : s.ImageKept (s.poisonWord page offset src) := by
  unfold poisonWord
  dsimp only []
  split
  · exact .refl s
  · split
    · exact .of_image rfl
    · exact s.imageKept_setPage (PageEntry.unmarked_markPoisoned _)

/-- A word found DOUBLE changes marks, the poison list and the lane (R8, R9, R10). -/
theorem imageKept_uncorrectable (page offset : Nat) (src : StoreSource) : s.ImageKept (s.uncorrectable page offset src) := by
  unfold uncorrectable
  split
  · exact .refl s
  · dsimp only []
    split
    · exact (s.imageKept_raise _).trans (imageKept_stopRequest _ _ _)
    · exact (s.imageKept_raise _).trans (imageKept_poisonWord _ _ _ _)

/-- A correcting read leaves every written value (R7). -/
theorem imageKept_readCell (frame page offset : Nat) (src : StoreSource) :
    s.ImageKept (s.readCell frame page offset src).1 := by
  unfold readCell
  dsimp only []
  split
  · exact .refl s
  · refine .trans (.trans (s.imageKept_setCell ?_) (imageKept_setFrame _ ?_)) (imageKept_reportCorrection _ _ _)
    · rfl
    · rfl
  · exact s.imageKept_uncorrectable _ _ _

theorem imageKept_readWord (page offset : Nat) (src : StoreSource) : s.ImageKept (s.readWord page offset src).1 := by
  unfold readWord
  split
  · exact s.imageKept_readCell _ _ _ _
  · exact .refl s

variable {s} in
theorem imageKept_of_readWord {t : State} {page offset : Nat} {src : StoreSource} {x : Option Word}
    (h : s.readWord page offset src = (t, x)) : s.ImageKept t := by
  have hread := s.imageKept_readWord page offset src
  rwa [h] at hread

/-- A run of correcting reads leaves every written value (R137, R141). -/
theorem imageKept_of_readRun {page : Nat} {src : StoreSource} {n : Nat} : ∀ {s t : State} {offset : Nat}
    {x : Option (List Word)}, s.readRun page src offset n = (t, x) → s.ImageKept t := by
  induction n with
  | zero =>
    intro s t offset x h
    cases h
    exact .refl s
  | succ n ih =>
    intro s t offset x h
    simp only [readRun] at h
    split at h
    · cases h
      exact imageKept_of_readWord ‹_›
    · rename_i s1 w h1
      split at h <;> cases h <;> exact (imageKept_of_readWord h1).trans (ih ‹_›)

/-- A before-image capture reads the page and stores nothing (R141). -/
theorem imageKept_capture (page : Nat) : s.ImageKept (s.capture page) := by
  unfold capture
  split
  · exact .refl s
  · split
    · split
      · exact (imageKept_of_readRun ‹_›).trans (imageKept_serve _ _)
      · exact imageKept_of_readRun ‹_›
    · exact .refl s

/-! ### The patrol -/

theorem imageKept_judgePass {p : Pass} {r : Region} (hr : s.region p.region = some r) :
    s.ImageKept (s.judgePass p r) := by
  unfold judgePass
  split
  · exact .refl s
  · split
    · exact (s.imageKept_raise _).trans (imageKept_stopRequest _ _ _)
    · exact (s.imageKept_raise _).trans (imageKept_setState (s := s.raise _) hr _)

/-- A patrol step reads, and at the end of a pass sets no more than a region's state (R60, R64, R66). -/
theorem imageKept_patrolStep : s.ImageKept s.patrolStep := by
  unfold patrolStep
  split
  · exact .refl s
  · rename_i p _
    split
    · exact .refl s
    · rename_i r hr
      split
      · exact .refl s
      · have hread := s.imageKept_readWord (r.first + p.cursor / 256) (p.cursor % 256) .patrol
        have hregions := congrArg State.regions (s.readWord_eq (r.first + p.cursor / 256) (p.cursor % 256) .patrol)
        generalize s.readWord (r.first + p.cursor / 256) (p.cursor % 256) .patrol = x at hread hregions ⊢
        obtain ⟨s1, value⟩ := x
        dsimp only [] at hread hregions ⊢
        have hpass : s1.ImageKept { s1 with patrol := { s1.patrol with pass := some (p.step r.seed value) } } := .of_image rfl
        split
        · exact hread.trans hpass
        · have hp : (p.step r.seed value).region = p.region := by cases value <;> rfl
          refine (hread.trans hpass).trans (.trans (imageKept_judgePass _ ?_) (imageKept_selectPass _))
          rw [hp, ← hr]
          simp only [State.region, hregions]

/-! ### Send steps and the donor's frames -/

theorem imageKept_sendStep : s.ImageKept s.sendStep := by
  unfold sendStep
  split
  · exact .refl s
  · split
    · split
      · exact (((s.imageKept_serve _).trans (imageKept_of_readRun ‹_›)).trans (imageKept_serve _ _)).trans
          (imageKept_putBulk _ _ _)
      · exact (s.imageKept_serve _).trans (imageKept_of_readRun ‹_›)
    · exact .refl s

theorem imageKept_finalSendStep : s.ImageKept s.finalSendStep := by
  unfold finalSendStep
  split
  · exact .refl s
  · split
    · dsimp only []
      split <;> rename_i h <;> split at h
      · cases h
        exact ((s.imageKept_serve _).trans (imageKept_serve _ _)).trans (imageKept_putBulk _ _ _)
      · exact (((s.imageKept_serve _).trans (imageKept_of_readRun h)).trans (imageKept_serve _ _)).trans
          (imageKept_putBulk _ _ _)
      · cases h
      · exact (s.imageKept_serve _).trans (imageKept_of_readRun h)
    · exact .refl s

theorem imageKept_resumeSend (port : LinkPort) : s.ImageKept (s.resumeSend port) := by
  unfold resumeSend
  split
  · exact .refl s
  · split
    · split
      · exact s.imageKept_sendStep
      · exact s.imageKept_finalSendStep
    · exact .refl s

theorem imageKept_transmitEnded (port : LinkPort) : s.ImageKept (s.transmitEnded port) := by
  unfold transmitEnded
  dsimp only []
  split
  · exact (s.imageKept_setLink _ _).trans (imageKept_resumeSend _ _)
  · exact s.imageKept_setLink _ _

theorem imageKept_queueLockImage : s.ImageKept s.queueLockImage := by
  unfold queueLockImage
  split
  · exact .refl s
  · split
    · exact (s.imageKept_serve _).trans (imageKept_putBulk _ _ _)
    · exact .refl s

theorem imageKept_queueSyncMark : s.ImageKept s.queueSyncMark := by
  unfold queueSyncMark
  split
  · exact .refl s
  · split
    · exact ((s.imageKept_serve _).trans (imageKept_putBulk _ _ _)).trans (imageKept_raise _ _)
    · exact .refl s

end State
end Sys2Proof.Machine
end

section
/-! The events of the vote unit, the transfer engine and an OPEN's settings that keep the image (chapters 6, 8; R31, R152). -/

namespace Sys2Proof.Machine

/-- A fold of an operation that keeps the image keeps it. -/
theorem State.imageKept_foldl {α : Type} {f : State → α → State} (hf : ∀ (s : State) (a : α), s.ImageKept (f s a)) (l : List α) :
    ∀ s : State, s.ImageKept (l.foldl f s) := by
  induction l with
  | nil => exact State.ImageKept.refl
  | cons a l ih => exact fun s => (hf s a).trans (ih _)

namespace State

variable (s : State)

/-! ### The vote unit -/

theorem imageKept_decideIfEarly : s.ImageKept s.decideIfEarly := by
  unfold decideIfEarly
  split
  · exact s.imageKept_decideVote
  · exact .refl s

theorem imageKept_startAttempt (j : Join) (port : LinkPort) : s.ImageKept (s.startAttempt j port) :=
  (s.imageKept_join _).trans (imageKept_putControl _ _ _)

theorem imageKept_peerHeard (port : LinkPort) : s.ImageKept (s.peerHeard port) := by
  unfold peerHeard
  split
  · exact .refl s
  · dsimp only []
    split
    · exact s.imageKept_startAttempt _ _
    · exact s.imageKept_join _
    · exact s.imageKept_join _

theorem imageKept_digestTaken (port : LinkPort) (m : Nat) (c : Bool) (l : DigestList) :
    s.ImageKept (s.digestTaken port m c l) := by
  unfold digestTaken
  dsimp only []
  split
  · split
    · exact (s.imageKept_setPeer _ _).trans (imageKept_decideIfEarly _)
    · split
      · split
        · exact s.imageKept_setPeer _ _
        · exact (s.imageKept_setPeer _ _).trans (imageKept_raise _ _)
      · exact (s.imageKept_setPeer _ _).trans (imageKept_raise _ _)
  · split
    · exact (s.imageKept_setPeer _ _).trans (imageKept_peerHeard _ _)
    · exact s.imageKept_setPeer _ _

theorem imageKept_digestReceived (port : LinkPort) (sender m : Nat) (c : Option Bool) (l : Option DigestList) :
    s.ImageKept (s.digestReceived port sender m c l) := by
  unfold digestReceived
  split
  · split
    · exact s.imageKept_digestTaken _ _ _ _
    · exact s.imageKept_checkFail _
  · exact s.imageKept_checkFail _

theorem imageKept_closeCompleted (n : Nat) : s.ImageKept (s.closeCompleted n) := by
  unfold closeCompleted
  split
  · exact .refl s
  · split
    · dsimp only []
      split <;> exact s.imageKept_serve _
    · exact .refl s
    · exact .refl s

/-- The completion of a close changes the vote unit, the links and the serve record (R97). -/
theorem imageKept_completeClose (n : Nat) : s.ImageKept (s.completeClose n) := by
  unfold completeClose
  dsimp only []
  refine .trans ?_ (imageKept_decideIfEarly _)
  refine .trans (t := closeCompleted _ n) ?_ (.of_image rfl)
  refine .trans ?_ (imageKept_closeCompleted _ n)
  refine .trans ?_ (imageKept_putControl _ _ _)
  refine .trans ?_ (imageKept_putControl _ _ _)
  exact .of_image rfl

theorem imageKept_stepLocks (values : List (Nat × Word)) : s.ImageKept (s.stepLocks values) :=
  imageKept_foldl (fun s k => .of_eq (s.stepLock_eq values k) rfl) _ s

/-- A close accepted decides the open vote, and begins the advance or is answered STOPPED (R95). -/
theorem imageKept_acceptClose (cycle : Nat) : s.ImageKept (s.acceptClose cycle) := by
  unfold acceptClose
  extract_lets s1
  have hdecide : s.ImageKept s1 := by
    dsimp only [s1]
    split
    · exact s.imageKept_decideVote
    · exact .refl s
  clear_value s1
  split
  · exact hdecide.trans (imageKept_advance _ _)
  · exact hdecide.trans (imageKept_reply _ _ _)

theorem imageKept_closeEvent (cycle : Nat) : s.ImageKept (s.closeEvent cycle) := by
  unfold closeEvent
  split
  · exact s.imageKept_reply _ _
  · split
    · exact s.imageKept_reply _ _
    · split
      · exact s.imageKept_reply _ _
      · exact s.imageKept_acceptClose _

/-! ### The transfer engine -/

theorem imageKept_judgeAsk (port : LinkPort) : s.ImageKept (s.judgeAsk port) := by
  have hdecline : ∀ reason, s.ImageKept (s.declineAsk port reason) := fun _ =>
    (s.imageKept_putControl _ _).trans (imageKept_raise _ _)
  unfold judgeAsk
  repeat' split
  case isFalse.isFalse.isFalse.isFalse =>
    unfold acceptAsk
    exact (((s.imageKept_putControl _ _).trans (imageKept_serve _ _)).trans (imageKept_setPeer _ _ _)).trans
      (imageKept_raise _ _)
  all_goals exact hdecline _

theorem imageKept_joinAsked (port : LinkPort) (sender : Nat) : s.ImageKept (s.joinAsked port sender) := by
  unfold joinAsked
  split
  · exact s.imageKept_checkFail _
  · split
    · exact (s.imageKept_endServe _ _).trans (imageKept_judgeAsk _ _)
    · exact s.imageKept_judgeAsk _

theorem imageKept_restartSilence (j : Join) : s.ImageKept (s.restartSilence j) := s.imageKept_join _

theorem imageKept_offerReceived (port : LinkPort) (pages : Nat) : s.ImageKept (s.offerReceived port pages) := by
  unfold offerReceived
  split
  · exact s.imageKept_putControl _ _
  · split
    · split
      · exact s.imageKept_restartSilence _
      · exact (s.imageKept_restartSilence _).trans (imageKept_failAttempt _ _ _)
    · exact s.imageKept_putControl _ _

theorem imageKept_declineReceived (port : LinkPort) (reason : Option RestoreReason) :
    s.ImageKept (s.declineReceived port reason) := by
  unfold declineReceived
  split
  · split
    · exact .refl s
    · exact s.imageKept_checkFail _
  · rename_i j _
    extract_lets s1
    have hsilence : s.ImageKept s1 := by
      dsimp only [s1]
      split
      · exact s.imageKept_restartSilence _
      · exact .refl s
    clear_value s1
    split
    · split
      · exact hsilence.trans (imageKept_failAttempt _ _ _)
      · exact hsilence
    · exact hsilence.trans (imageKept_checkFail _ _)

theorem imageKept_abortReceived (port : LinkPort) (reason : Option RestoreReason) :
    s.ImageKept (s.abortReceived port reason) := by
  unfold abortReceived
  extract_lets ours s1
  have hsilence : s.ImageKept s1 := by
    dsimp only [s1]
    split
    · split
      · exact s.imageKept_restartSilence _
      · exact .refl s
    · exact .refl s
  clear_value s1
  split
  · exact hsilence.trans (imageKept_checkFail _ _)
  · split
    · exact hsilence.trans (imageKept_endServe _ _ _)
    · split
      · exact hsilence.trans (imageKept_failAttempt _ _ _)
      · split
        · exact hsilence.trans (imageKept_setPeer _ _ _)
        · exact hsilence

theorem imageKept_imageReceived (port : LinkPort) (timers : Option (List LockTimer)) :
    s.ImageKept (s.imageReceived port timers) := by
  unfold imageReceived
  extract_lets s1
  have hsilence : s.ImageKept s1 := by
    dsimp only [s1]
    split
    · split
      · exact s.imageKept_restartSilence _
      · exact .refl s
    · exact .refl s
  clear_value s1
  split
  · exact hsilence.trans (imageKept_checkFail _ _)
  · split
    · split
      · split
        · exact hsilence.trans (.of_image rfl)
        · exact hsilence.trans (imageKept_failAttempt _ _ _)
      · exact hsilence.trans (imageKept_putControl _ _ _)
    · exact hsilence.trans (imageKept_putControl _ _ _)

/-! ### The settings of an OPEN and of a join completion -/

/-- Pages whose entries change in their marks alone (R31, R152). -/
theorem imageKept_markPages {f : PageEntry → PageEntry} (hf : ∀ e, (f e).unmarked = e.unmarked) (pages : List Nat) :
    s.ImageKept (pages.foldl (fun s p => s.setPage p (f (s.page p))) s) :=
  imageKept_foldl (fun s _ => s.imageKept_setPage (hf _)) _ s

/-- Marking pages touches no region. -/
theorem markPages_regions (f : PageEntry → PageEntry) (pages : List Nat) : ∀ s : State,
    (pages.foldl (fun s p => s.setPage p (f (s.page p))) s).regions = s.regions := by
  induction pages with
  | nil => exact fun _ => rfl
  | cons p pages ih => exact fun s => ih (s.setPage p (f (s.page p)))

variable {s} in
theorem imageKept_settleRegion {id : Nat} {r : Region} (hr : s.region id = some r) (st : RegionState) :
    s.ImageKept (s.settleRegion id r st) := by
  have hset : s.ImageKept ((s.setRegion id (some { r with state := st })).endPassOn id) :=
    (imageKept_setState hr st).trans (imageKept_endPassOn _ _)
  unfold settleRegion
  dsimp only []
  split
  · exact hset.trans (imageKept_selectIfWaiting _)
  · exact hset

theorem imageKept_openRegion (kind : OpenKind) (before : Nat → Bool) (id : Nat) :
    s.ImageKept (State.openRegion kind before s id) := by
  unfold openRegion
  split
  · exact .refl s
  · rename_i r hr
    split
    · refine (s.imageKept_markPages (PageEntry.unmarked_opened kind) r.pages).trans (imageKept_settleRegion ?_ _)
      simp only [region, markPages_regions]
      exact hr
    · split
      · exact .refl s
      · exact imageKept_settleRegion hr _

theorem imageKept_openSettings (kind : OpenKind) (before : Nat → Bool) : s.ImageKept (s.openSettings kind before) := by
  have hset := imageKept_foldl (fun s id => s.imageKept_openRegion kind before id) (List.range 16) s
  unfold openSettings
  generalize (List.range 16).foldl (openRegion kind before) s = s1 at hset ⊢
  exact hset.trans (.of_image rfl)

theorem imageKept_restoreRegion (id : Nat) : s.ImageKept (s.restoreRegion id) := by
  unfold restoreRegion
  split
  · rename_i r hr
    split
    · refine (s.imageKept_markPages PageEntry.unmarked_restored r.pages).trans (imageKept_setState ?_ .clean)
      simp only [region, markPages_regions]
      exact hr
    · exact .refl s
  · exact .refl s

theorem imageKept_completeJoin (n : Nat) : s.ImageKept (s.completeJoin n) := by
  have hset := (imageKept_foldl imageKept_restoreRegion (List.range 16) s).trans (imageKept_selectIfWaiting _)
  unfold completeJoin
  generalize ((List.range 16).foldl restoreRegion s).selectIfWaiting = s1 at hset ⊢
  exact hset.trans (.of_image rfl)

theorem imageKept_syncReceived (port : LinkPort) (n : Nat) (list : Option DigestList) :
    s.ImageKept (s.syncReceived port n list) := by
  unfold syncReceived
  split
  · split
    · split
      · exact s.imageKept_completeJoin _
      · exact (s.imageKept_restartSilence _).trans (imageKept_failAttempt _ _ _)
    · exact s.imageKept_putControl _ _
  · exact s.imageKept_putControl _ _

end State
end Sys2Proof.Machine
end

section
/-! The laws of the image through the operations of the map unit that change it: a frame that joins or leaves a page, a move,
and the mapping and unmapping of pages (R23, R28, R29, R34 to R39). -/

namespace Sys2Proof.Machine

/-! ### The laws with one region's digest left open -/

/-- A sound image, but for the live digest of region `id`, which an operation on its pages may leave behind until it sets or
drops the record (R23, R51). -/
def State.SoundBut (s : State) (id : Nat) : Prop :=
  s.mem.wf ∧ s.RegionLaw ∧ s.PoolLaw ∧ s.MoveLaw ∧
    (∀ j r, j ≠ id → s.region j = some r → r.live = s.regionDigest r) ∧ s.FillLaw

theorem State.SoundImage.but {s : State} (h : s.SoundImage) (id : Nat) : s.SoundBut id := by
  obtain ⟨hwf, hregion, hpool, hmove, hdigest, hfill⟩ := h
  exact ⟨hwf, hregion, hpool, hmove, fun j r _ => hdigest j r, hfill⟩

/-- With the digest of the region left open true as well, the image is sound. -/
theorem State.SoundBut.sound {s : State} {id : Nat} (h : s.SoundBut id)
    (hid : ∀ r, s.region id = some r → r.live = s.regionDigest r) : s.SoundImage := by
  obtain ⟨hwf, hregion, hpool, hmove, hdigest, hfill⟩ := h
  refine ⟨hwf, hregion, hpool, hmove, fun j r hr => ?_, hfill⟩
  by_cases hj : j = id
  · subst hj; exact hid r hr
  · exact hdigest j r hj hr

/-- No region has id 16, so with its digest left open the image is sound. -/
theorem State.soundImage_iff {s : State} : s.SoundImage ↔ s.SoundBut 16 :=
  ⟨fun h => h.but 16, fun h => h.sound fun _ hr => absurd (State.region_lt hr) (by decide)⟩

/-- Two regions that hold one page are the same (R21). -/
theorem State.RegionLaw.same_id {s : State} (h : s.RegionLaw) {i j page : Nat} {r q : Region} (hr : s.region i = some r)
    (hq : s.region j = some q) (hi : page ∈ r.pages) (hj : page ∈ q.pages) : i = j := by
  by_contra hij
  have hapart := h.2.1 i j r q hr hq hij
  rw [Region.mem_pages] at hi hj
  omega

/-- A page of a defined region lies in the page space (R21). -/
theorem State.RegionLaw.page_lt {s : State} (h : s.RegionLaw) {id page : Nat} {r : Region} (hr : s.region id = some r)
    (hp : page ∈ r.pages) : page < 120 := by
  have hin := h.1 id r hr
  rw [Region.mem_pages] at hp
  omega

/-- The pages of the region whose digest is left open. -/
def State.openPage (s : State) (id page : Nat) : Prop := ∃ r, s.region id = some r ∧ page ∈ r.pages

/-- Two states with the same region table have the same records. -/
theorem State.region_congr {s t : State} (h : t.regions = s.regions) (id : Nat) : t.region id = s.region id := by
  simp only [State.region, h]

/-- The region of a page is found in the region table alone (R21). -/
theorem State.regionOf_congr {s t : State} (h : t.regions = s.regions) (page : Nat) : t.regionOf page = s.regionOf page := by
  simp only [State.regionOf, State.region_congr h]

/-! ### The pool -/

/-- The entry is MOVING (R25). -/
def PageEntry.IsMoving (e : PageEntry) : Prop := ∃ f g c p r, e = .moving f g c p r

/-- The move engine and the page map agree (R34). -/
def State.EngineLaw (s : State) : Prop :=
  (∀ page f g c p r, s.page page = .moving f g c p r → s.moving = some page ∧ f ≠ g ∧ c < 256 ∧ (s.frame g).worn = false) ∧
    ∀ page, s.moving = some page → (s.page page).IsMoving

theorem State.PoolLaw.engine {s : State} (h : s.PoolLaw) : s.EngineLaw := h.2.2.2

/-- A frame is named by one page (R27). -/
theorem State.PoolLaw.names_inj {s : State} (h : s.PoolLaw) {p q k : Nat} (hp : (s.page p).names k)
    (hq : (s.page q).names k) : p = q :=
  Option.some.inj ((h.1 p k hp).2.2.symm.trans (h.1 q k hq).2.2)

/-- A FREE frame is named by no page (R27). -/
theorem State.PoolLaw.not_names_of_free {s : State} (h : s.PoolLaw) {k : Nat} (hk : (s.frame k).state = .free) (q : Nat) :
    ¬ (s.page q).names k := fun hq => by
  have := (h.1 q k hq).2.1
  rw [hk] at this
  cases this

/-- A page that the engine does not move is not MOVING (R34). -/
theorem State.EngineLaw.not_moving {s : State} (h : s.EngineLaw) {page : Nat} (hp : s.moving ≠ some page) :
    ¬ (s.page page).IsMoving := fun ⟨f, g, c, p, r, he⟩ => hp (h.1 page f g c p r he).1

/-- The engine idle and no page MOVING. -/
theorem State.engineLaw_of_still {t : State} (hmoving : t.moving = none) (hstill : ∀ q, ¬ (t.page q).IsMoving) :
    t.EngineLaw :=
  ⟨fun q f g c p r hq => absurd ⟨f, g, c, p, r, hq⟩ (hstill q), fun q hq => by rw [hmoving] at hq; cases hq⟩

/-- A page that is not MOVING changes, and a frame that no other page names: the engine is as before. -/
theorem State.EngineLaw.of_settled {s t : State} {page k : Nat} (h : s.EngineLaw) (hs : ¬ (s.page page).IsMoving)
    (ht : ¬ (t.page page).IsMoving) (hpages : ∀ q, q ≠ page → t.page q = s.page q) (hmoving : t.moving = s.moving)
    (hframes : ∀ j, j ≠ k → t.frame j = s.frame j) (hk : ∀ q, q ≠ page → ¬ (s.page q).names k) : t.EngineLaw := by
  refine ⟨fun q f g c p r hq => ?_, fun q hq => ?_⟩
  · have hne : q ≠ page := fun he => ht (he ▸ ⟨f, g, c, p, r, hq⟩)
    rw [hpages q hne] at hq
    have hg : g ≠ k := fun he => hk q hne (by rw [hq, ← he]; exact .inr rfl)
    rw [hmoving, hframes g hg]
    exact h.1 q f g c p r hq
  · have hmov := h.2 q (hmoving ▸ hq)
    have hne : q ≠ page := fun he => hs (he ▸ hmov)
    rw [hpages q hne]
    exact hmov

/-- A FREE frame joins a page (R28, R34). -/
theorem State.PoolLaw.attach {s t : State} {page k : Nat} (h : s.PoolLaw) (hk : k < 128)
    (hfree : (s.frame k).state = .free) (hother : ∀ q, q ≠ page → t.page q = s.page q)
    (hnames : ∀ j, (t.page page).names j ↔ (s.page page).names j ∨ j = k)
    (hframe : (t.frame k).state = .inUse ∧ (t.frame k).page = some page)
    (hframes : ∀ j, j ≠ k → t.frame j = s.frame j) (hengine : t.EngineLaw) : t.PoolLaw := by
  obtain ⟨hown, hback, hworn, -⟩ := id h
  have hnames' : ∀ q j, (t.page q).names j ↔ (s.page q).names j ∨ q = page ∧ j = k := fun q j => by
    by_cases hq : q = page
    · subst hq; simp [hnames]
    · simp [hother q hq, hq]
  refine ⟨fun q j hj => ?_, fun j q hj => ?_, fun j hj => ?_, hengine⟩
  · rcases (hnames' q j).mp hj with hs | ⟨rfl, rfl⟩
    · have hne : j ≠ k := fun he => h.not_names_of_free hfree q (he ▸ hs)
      rw [hframes j hne]; exact hown q j hs
    · exact ⟨hk, hframe⟩
  · by_cases hne : j = k
    · subst hne
      exact ⟨hframe.1, (hnames' q j).mpr (.inr ⟨Option.some.inj (hj.symm.trans hframe.2), rfl⟩)⟩
    · rw [hframes j hne] at hj ⊢
      obtain ⟨hst, hn⟩ := hback j q hj
      exact ⟨hst, (hnames' q j).mpr (.inl hn)⟩
  · by_cases hne : j = k
    · subst hne; exact hframe.1
    · rw [hframes j hne] at hj ⊢; exact hworn j hj

/-- A frame leaves its page (R29, R38, R39). -/
theorem State.PoolLaw.detach {s t : State} {page k : Nat} (h : s.PoolLaw) (hk : (s.page page).names k)
    (hother : ∀ q, q ≠ page → t.page q = s.page q)
    (hnames : ∀ j, (t.page page).names j ↔ (s.page page).names j ∧ j ≠ k)
    (hframe : (t.frame k).page = none ∧ (t.frame k).worn = false)
    (hframes : ∀ j, j ≠ k → t.frame j = s.frame j) (hengine : t.EngineLaw) : t.PoolLaw := by
  obtain ⟨hown, hback, hworn, -⟩ := id h
  have hnames' : ∀ q j, (t.page q).names j ↔ (s.page q).names j ∧ j ≠ k := fun q j => by
    by_cases hq : q = page
    · rw [hq]; exact hnames j
    · rw [hother q hq]
      exact ⟨fun hn => ⟨hn, fun hj => hq (h.names_inj (hj ▸ hn) hk)⟩, And.left⟩
  have hgone : ∀ {j : Nat} {x : Option Nat}, (t.frame j).page = x → x ≠ none → j ≠ k := by
    rintro j x rfl hx rfl
    exact hx hframe.1
  refine ⟨fun q j hj => ?_, fun j q hj => ?_, fun j hj => ?_, hengine⟩
  · obtain ⟨hs, hne⟩ := (hnames' q j).mp hj
    rw [hframes j hne]; exact hown q j hs
  · have hne := hgone hj (by simp)
    rw [hframes j hne] at hj ⊢
    obtain ⟨hst, hn⟩ := hback j q hj
    exact ⟨hst, (hnames' q j).mpr ⟨hn, hne⟩⟩
  · have hne : j ≠ k := by
      rintro rfl
      rw [hframe.2] at hj; cases hj
    rw [hframes j hne] at hj ⊢; exact hworn j hj

/-! ### An operation on one page -/

/-- What an operation on one page has to keep, where it leaves the written values in the frames of the others: the canonical
form, the pool, a region for the page, the law of its move, and its written values unless its region is left open. -/
theorem State.SoundBut.of_page {s t : State} {id page : Nat} (h : s.SoundBut id) (hwf : t.mem.wf)
    (hregions : t.regions = s.regions) (hopening : t.opening = s.opening)
    (hother : ∀ q, q ≠ page → t.page q = s.page q)
    (hmapped : (t.page page).mapped = true → (s.page page).mapped = true ∨ (s.regionOf page).isSome)
    (hcells : ∀ q k, q ≠ page → (s.page q).names k → ∀ o < 256, (t.cell k o).written = (s.cell k o).written)
    (hpool : t.PoolLaw)
    (hmove : ∀ f g c p r, t.page page = .moving f g c p r → ∀ o < c, (t.cell f o).written = (t.cell g o).written)
    (hwritten : ¬ s.openPage id page → ∀ o < 256, t.writtenAt page o = s.writtenAt page o) : t.SoundBut id := by
  obtain ⟨-, hregion, hspool, hsmove, hdigest, hfill⟩ := h
  have hsame := State.region_congr hregions
  refine ⟨hwf, ⟨fun j r => ?_, fun i j r q => ?_, fun q hq => ?_⟩, hpool, fun q f g c p r hq => ?_, fun j r hj hr => ?_, ?_⟩
  · rw [hsame]; exact hregion.1 j r
  · rw [hsame, hsame]; exact hregion.2.1 i j r q
  · rw [State.regionOf_congr hregions]
    by_cases hqp : q = page
    · subst hqp; exact (hmapped hq).elim (hregion.2.2 q) fun hr => hr
    · exact hregion.2.2 q (hother q hqp ▸ hq)
  · by_cases hqp : q = page
    · subst hqp; exact hmove f g c p r hq
    · rw [hother q hqp] at hq
      have hc := (hspool.engine.1 q f g c p r hq).2.2.1
      intro o ho
      rw [hcells q f hqp (by rw [hq]; exact .inl rfl) o (by omega),
        hcells q g hqp (by rw [hq]; exact .inr rfl) o (by omega)]
      exact hsmove q f g c p r hq o ho
  · rw [hsame] at hr
    rw [hdigest j r hj hr]
    refine (State.regionDigest_congr fun q hq o ho => ?_).symm
    by_cases hqp : q = page
    · subst hqp
      exact hwritten (fun ⟨r', hr', hq'⟩ => hj (hregion.same_id hr hr' hq hq')) o ho
    · exact State.writtenAt_congr (by rw [hother q hqp]) fun k hk => hcells q k hqp (PageEntry.names_of_frameAt hk) o ho
  · simpa only [State.FillLaw, hopening] using hfill

/-! ### Frames allocated and freed -/

/-- The lowest FREE frame is a FREE frame of the store (R28). -/
theorem State.lowestFree_some {s : State} {k : Nat} (h : s.lowestFree = some k) :
    k < 128 ∧ (s.frame k).state = .free :=
  ⟨List.mem_range.mp (List.mem_of_find?_eq_some h), by simpa using List.find?_some h⟩

theorem State.frame_allocate (s : State) {k : Nat} (page j : Nat) (hk : k < 128) :
    (s.allocate k page).frame j = if k = j then { s.frame k with state := .inUse, page := some page } else s.frame j :=
  State.frame_setFrame (s.zeroFillFrame k) j _ hk

/-- Allocation zero-fills its frame and no other (R28). -/
theorem State.cell_allocate (s : State) (k page j : Nat) {o : Nat} (hwf : s.mem.wf) (ho : o < 256) :
    (s.allocate k page).cell j o = if j = k then Cell.zero else s.cell j o := by
  have hkey : (k * 256 ≤ wordKey j o ∧ wordKey j o < k * 256 + 256) ↔ j = k := by unfold wordKey; omega
  have hget := Memory.get_clear (k * 256) (k * 256 + 256) (wordKey j o) hwf.1
  simp only [hkey] at hget
  exact hget

theorem State.wf_allocate {s : State} (k page : Nat) (hwf : s.mem.wf) : (s.allocate k page).mem.wf :=
  Memory.wf_clear _ _ hwf

/-- A frame freed backs no page and is not WORN; every other frame is as before (R29). -/
theorem State.frame_freeFrame (s : State) {k : Nat} (page : Nat) (hk : k < 128) :
    (((s.freeFrame k page).frame k).page = none ∧ ((s.freeFrame k page).frame k).worn = false) ∧
      ∀ j, j ≠ k → (s.freeFrame k page).frame j = s.frame j := by
  unfold State.freeFrame
  dsimp only []
  split
  · refine ⟨?_, fun j hj => ?_⟩
    · have : ((s.setFrame k { s.frame k with state := .retired, worn := false, page := none }).raise
          (.retire k page .retired)).frame k = _ := (State.frame_setFrame s k _ hk).trans (if_pos rfl)
      rw [this]; exact ⟨rfl, rfl⟩
    · exact (State.frame_setFrame s j _ hk).trans (if_neg (Ne.symm hj))
  · rename_i hworn
    refine ⟨?_, fun j hj => ?_⟩
    · rw [State.frame_setFrame s k _ hk, if_pos rfl]; exact ⟨rfl, by simpa using hworn⟩
    · exact (State.frame_setFrame s j _ hk).trans (if_neg (Ne.symm hj))

theorem State.freeFrame_fields (s : State) (k page : Nat) :
    (s.freeFrame k page).mem = s.mem ∧ (s.freeFrame k page).pages = s.pages ∧
      (s.freeFrame k page).regions = s.regions ∧ (s.freeFrame k page).moving = s.moving ∧
      (s.freeFrame k page).opening = s.opening := by
  rw [State.freeFrame_eq]
  exact ⟨rfl, rfl, rfl, rfl, rfl⟩

end Sys2Proof.Machine
end

section
/-! Pages mapped, moved and unmapped keep the laws of the image (R23, R28 to R30, R34 to R39). -/

namespace Sys2Proof.Machine

/-! ### Entries that are not MOVING -/

theorem settledEntry_unmarked (f : Nat) (p r : Bool) : (settledEntry f p r).unmarked = .active f := by
  cases p <;> cases r <;> rfl

theorem mappedEntry_unmarked (kind : OpenKind) (cls : RegionClass) (f : Nat) :
    (mappedEntry kind cls f).unmarked = .active f := by cases kind <;> cases cls <;> rfl

namespace PageEntry

variable {e : PageEntry} {f : Nat} (h : e.unmarked = .active f)
include h

theorem not_moving_of_active : ¬ e.IsMoving := by
  rintro ⟨f', g, c, p, r, rfl⟩
  cases h

theorem names_of_active (k : Nat) : e.names k ↔ k = f := by
  rw [← names_unmarked, h]
  rfl

theorem frameAt_of_active (o : Nat) : e.frameAt o = some f := by
  rw [← frameAt_unmarked, h]
  rfl

end PageEntry

/-- An entry that is not MOVING is UNMAPPED or stands on one frame (R25). -/
theorem PageEntry.unmapped_or_active {e : PageEntry} (h : ¬ e.IsMoving) : e = .unmapped ∨ ∃ f, e.unmarked = .active f := by
  cases e with
  | unmapped => exact .inl rfl
  | active f => exact .inr ⟨f, rfl⟩
  | restoring f => exact .inr ⟨f, rfl⟩
  | poisoned f => exact .inr ⟨f, rfl⟩
  | moving f g c p r => exact absurd ⟨f, g, c, p, r, rfl⟩ h

/-! ### Mapping -/

/-- An UNMAPPED page of a region mapped on a zero-filled frame: its words count as 0 before and after (R28, R42). -/
theorem State.SoundImage.mapPage {s : State} (h : s.SoundImage) (kind : OpenKind) (cls : RegionClass) {page : Nat}
    (hp : page < 120) (hr : (s.regionOf page).isSome) : (State.mapPage kind cls s page).SoundImage := by
  unfold State.mapPage
  split
  next k hun hlow =>
    obtain ⟨hk, hfree⟩ := State.lowestFree_some hlow
    obtain ⟨hwf, -, hpool, -⟩ := id h
    have he := mappedEntry_unmarked kind cls k
    generalize mappedEntry kind cls k = e at he
    generalize ht : (s.allocate k page).setPage page e = t
    have hself : t.page page = e := by rw [← ht, State.page_setPage _ _ _ hp, if_pos rfl]
    have hother : ∀ q, q ≠ page → t.page q = s.page q := fun q hq => by
      rw [← ht, State.page_setPage _ _ _ hp, if_neg (Ne.symm hq)]; rfl
    have hframe : ∀ j, t.frame j = (s.allocate k page).frame j := fun j => by rw [← ht]; rfl
    have hframes : ∀ j, j ≠ k → t.frame j = s.frame j := fun j hj => by
      rw [hframe, s.frame_allocate page j hk, if_neg (Ne.symm hj)]
    have hcell : ∀ j, ∀ o < 256, t.cell j o = if j = k then Cell.zero else s.cell j o := fun j o ho => by
      rw [← ht]; exact s.cell_allocate k page j hwf ho
    have hstill := PageEntry.not_moving_of_active he
    refine State.soundImage_iff.mpr ((State.soundImage_iff.mp h).of_page (page := page) ?wf ?_ ?_ hother
      (fun _ => .inr hr) (fun q j _ hj o ho => ?cells) ?pool (fun f g c p r hq => ?move) fun _ o ho => ?written)
    case wf => rw [← ht]; exact State.wf_allocate k page hwf
    case cells =>
      have hne : j ≠ k := fun hc => hpool.not_names_of_free hfree q (hc ▸ hj)
      rw [hcell j o ho, if_neg hne]
    case pool =>
      refine hpool.attach (page := page) hk hfree hother (fun j => ?_) ?_ hframes ?_
      · rw [hself, hun, PageEntry.names_of_active he]
        simp [PageEntry.names]
      · rw [hframe, s.frame_allocate page k hk, if_pos rfl]; exact ⟨rfl, rfl⟩
      · exact hpool.engine.of_settled (page := page) (by rw [hun]; rintro ⟨_, _, _, _, _, hc⟩; cases hc)
          (hself ▸ hstill) hother (by rw [← ht]; rfl) hframes fun q _ => hpool.not_names_of_free hfree q
    case move => exact absurd ⟨f, g, c, p, r, hself ▸ hq⟩ hstill
    case written =>
      rw [State.writtenAt_of_unmapped o hun,
        State.writtenAt_of_frameAt (by rw [hself]; exact PageEntry.frameAt_of_active he o), hcell k o ho, if_pos rfl]
      rfl
    all_goals rw [← ht]; rfl
  next => exact h

theorem State.mapPage_regions (kind : OpenKind) (cls : RegionClass) (s : State) (page : Nat) :
    (State.mapPage kind cls s page).regions = s.regions := by
  unfold State.mapPage
  split <;> rfl

/-- The pages of a region mapped in turn (R30). -/
theorem State.SoundImage.mapPages (kind : OpenKind) (cls : RegionClass) (pages : List Nat) : ∀ {s : State}, s.SoundImage →
    (∀ p ∈ pages, p < 120 ∧ (s.regionOf p).isSome) → (pages.foldl (State.mapPage kind cls) s).SoundImage := by
  induction pages with
  | nil => exact fun h _ => h
  | cons p pages ih =>
    intro s h hp
    obtain ⟨hlt, hr⟩ := hp p (List.mem_cons_self ..)
    refine ih (h.mapPage kind cls hlt hr) fun q hq => ?_
    rw [State.regionOf_congr (State.mapPage_regions kind cls s p)]
    exact hp q (List.mem_cons_of_mem _ hq)

theorem State.SoundImage.mapRegion {s : State} (h : s.SoundImage) (kind : OpenKind) (id : Nat) :
    (State.mapRegion kind s id).SoundImage := by
  unfold State.mapRegion
  split
  · rename_i r hr
    exact State.SoundImage.mapPages kind r.cls r.pages h fun p hp =>
      ⟨h.2.1.page_lt hr hp, State.regionOf_isSome.mpr ⟨id, r, hr, hp⟩⟩
  · exact h

/-- A fold of an operation that keeps a sound image keeps it. -/
theorem State.SoundImage.foldl {α : Type} {f : State → α → State} (hf : ∀ (s : State) (a : α), s.SoundImage → (f s a).SoundImage)
    (l : List α) : ∀ {s : State}, s.SoundImage → (l.foldl f s).SoundImage := by
  induction l with
  | nil => exact fun h => h
  | cons a l ih => exact fun h => ih (hf _ a h)

/-- The mapping of an OPEN (R30). -/
theorem State.SoundImage.mapAll {s : State} (h : s.SoundImage) (kind : OpenKind) : (s.mapAll kind).SoundImage :=
  State.SoundImage.foldl (fun _ id hs => hs.mapRegion kind id) _ h

/-! ### A move abandoned -/

/-- An abandoned move leaves the page on its old frame, which holds every written value (R36, R39). -/
theorem State.SoundBut.abandonMove {s : State} {id : Nat} (h : s.SoundBut id) (page : Nat) :
    (s.abandonMove page).SoundBut id := by
  unfold State.abandonMove
  split
  next f g c p r hmv =>
    have ⟨hwf, _, hpool, hmove, _⟩ := h
    have hp : page < 120 := State.page_lt (by rw [hmv]; simp)
    have hg : (s.page page).names g := by rw [hmv]; exact .inr rfl
    obtain ⟨hmoving, hfg, -⟩ := hpool.engine.1 page f g c p r hmv
    obtain ⟨hfreed, hkept⟩ := s.frame_freeFrame page (hpool.1 page g hg).1
    obtain ⟨hmem, hpages, hregions, -, hopening⟩ := s.freeFrame_fields g page
    have he := settledEntry_unmarked f p r
    have hstill := PageEntry.not_moving_of_active he
    generalize ht : ({ (s.freeFrame g page).setPage page (settledEntry f p r) with moving := none } : State) = t
    have hself : t.page page = settledEntry f p r := by
      rw [← ht]; exact (State.page_setPage _ _ _ hp).trans (if_pos rfl)
    have hother : ∀ q, q ≠ page → t.page q = s.page q := fun q hq => by
      have : t.page q = (s.freeFrame g page).page q := by
        rw [← ht]; exact (State.page_setPage _ _ _ hp).trans (if_neg (Ne.symm hq))
      rw [this]
      simp only [State.page, hpages]
    have hframe : ∀ j, t.frame j = (s.freeFrame g page).frame j := fun j => by rw [← ht]; rfl
    have hcell : ∀ j o, t.cell j o = s.cell j o := fun j o => by
      rw [← ht]; simp only [State.cell, State.setPage_mem, hmem]
    refine h.of_page (page := page) ?wf ?regions ?opening hother (fun _ => .inl (by rw [hmv]; rfl))
      (fun q j _ _ o _ => by rw [hcell]) ?pool (fun f' g' c' p' r' hq => ?move) fun _ o _ => ?written
    case wf => rw [← ht]; exact hmem ▸ hwf
    case regions => rw [← ht]; exact hregions
    case opening => rw [← ht]; exact hopening
    case pool =>
      refine hpool.detach hg hother (fun j => ?_) (by rw [hframe]; exact hfreed) (fun j hj => ?_) ?_
      · rw [hself, PageEntry.names_of_active he, hmv]
        simp only [PageEntry.names]
        constructor
        · rintro rfl; exact ⟨.inl rfl, hfg⟩
        · rintro ⟨rfl | rfl, hj⟩
          · rfl
          · exact absurd rfl hj
      · rw [hframe]; exact hkept j hj
      · refine State.engineLaw_of_still (by rw [← ht]) fun q => ?_
        by_cases hq : q = page
        · rw [hq, hself]; exact hstill
        · rw [hother q hq]
          exact hpool.engine.not_moving (by rw [hmoving]; simpa using Ne.symm hq)
    case move => exact absurd ⟨f', g', c', p', r', hself ▸ hq⟩ hstill
    case written =>
      rw [State.writtenAt_of_frameAt (by rw [hself]; exact PageEntry.frameAt_of_active he o), hcell]
      unfold State.writtenAt
      rw [hmv]
      simp only [PageEntry.frameAt]
      split
      · exact hmove page f g c p r hmv o ‹_›
      · rfl
  all_goals exact h

/-- The law of the zero-fill is the only one that speaks of the OPEN under way (R17). -/
theorem State.SoundImage.setOpening {s : State} (h : s.SoundImage) {o : Option Opening}
    (ho : State.FillLaw { s with opening := o }) : State.SoundImage { s with opening := o } := by
  obtain ⟨hwf, hregion, hpool, hmove, hdigest, -⟩ := h
  exact ⟨hwf, hregion, hpool, hmove, hdigest, ho⟩

/-- With the move it works on abandoned the engine is idle (R39). -/
theorem State.abandonMove_moving {s : State} (h : s.EngineLaw) {page : Nat} (hp : s.moving = some page) :
    (s.abandonMove page).moving = none := by
  obtain ⟨f, g, c, p, r, hmv⟩ := h.2 page hp
  unfold State.abandonMove
  rw [hmv]

theorem State.SoundImage.movesDropped {s : State} (h : s.SoundImage) : s.movesDropped.SoundImage := by
  unfold State.movesDropped
  split
  · rename_i page hp
    have hidle := State.abandonMove_moving h.2.2.1.engine hp
    refine State.ImageKept.sound (.of_image ?_) (State.soundImage_iff.mpr ((State.soundImage_iff.mp h).abandonMove page))
    simp only [State.image, hidle]
  · rename_i hidle
    refine State.ImageKept.sound (.of_image ?_) h
    simp only [State.image, hidle]

/-- A warm restart abandons the move in progress and keeps the rest of the image (R39, R128). -/
theorem State.SoundImage.warmRestart {s : State} (h : s.SoundImage) : s.warmRestart.SoundImage := by
  have hdropped := h.movesDropped
  unfold State.warmRestart
  generalize s.movesDropped = s1 at hdropped ⊢
  have hclosed := hdropped.setOpening (o := none) fun _ _ _ hc => by cases hc
  exact (State.imageKept_selectPass _).sound (State.ImageKept.sound (.of_image rfl) hclosed)

/-! ### Unmapping -/

/-- A page of the region left open that is not MOVING gives up its frame (R23). -/
theorem State.SoundBut.unmapSettled {s : State} {id page : Nat} (h : s.SoundBut id) (hstill : ¬ (s.page page).IsMoving)
    (hopen : s.openPage id page) : (s.unmapSettled page).SoundBut id := by
  unfold State.unmapSettled
  split
  next f hf =>
    have ⟨hwf, _, hpool, _⟩ := h
    have he : (s.page page).unmarked = .active f := by
      rcases PageEntry.unmapped_or_active hstill with hun | ⟨f', he⟩
      · rw [hun] at hf; cases hf
      · rw [PageEntry.frameAt_of_active he] at hf
        rw [he, Option.some.inj hf]
    have hnames : (s.page page).names f := (PageEntry.names_of_active he f).mpr rfl
    have hp : page < 120 := State.page_lt (by intro hun; rw [hun] at hf; cases hf)
    obtain ⟨hfreed, hkept⟩ := s.frame_freeFrame page (hpool.1 page f hnames).1
    obtain ⟨hmem, hpages, hregions, hmoving, hopening⟩ := s.freeFrame_fields f page
    generalize ht : (((s.freeFrame f page).setPage page .unmapped).unqueue f).clearPoisonPage page = t
    have hself : t.page page = .unmapped := by
      rw [← ht]; exact (State.page_setPage _ _ _ hp).trans (if_pos rfl)
    have hother : ∀ q, q ≠ page → t.page q = s.page q := fun q hq => by
      have : t.page q = (s.freeFrame f page).page q := by
        rw [← ht]; exact (State.page_setPage _ _ _ hp).trans (if_neg (Ne.symm hq))
      rw [this]
      simp only [State.page, hpages]
    have hframe : ∀ j, t.frame j = (s.freeFrame f page).frame j := fun j => by rw [← ht]; rfl
    have hframes : ∀ j, j ≠ f → t.frame j = s.frame j := fun j hj => by rw [hframe]; exact hkept j hj
    have hcell : ∀ j o, t.cell j o = s.cell j o := fun j o => by
      rw [← ht]; exact congrArg (fun m => Memory.get m (wordKey j o)) hmem
    refine h.of_page (page := page) ?wf ?regions ?opening hother (fun hm => by rw [hself] at hm; cases hm)
      (fun q j _ _ o _ => by rw [hcell]) ?pool (fun f' g' c' p' r' hq => by rw [hself] at hq; cases hq)
      fun hn => absurd hopen hn
    case wf => rw [← ht]; exact hmem ▸ hwf
    case regions => rw [← ht]; exact hregions
    case opening => rw [← ht]; exact hopening
    case pool =>
      refine hpool.detach hnames hother (fun j => ?_) (by rw [hframe]; exact hfreed) hframes ?_
      · rw [hself, PageEntry.names_of_active he]
        simp [PageEntry.names]
      · refine hpool.engine.of_settled hstill (by rw [hself]; rintro ⟨_, _, _, _, _, hc⟩; cases hc) hother
          (by rw [← ht]; exact hmoving) hframes fun q hq hn => hq (hpool.names_inj hn hnames)
  next =>
    obtain ⟨hwf, hregion, hpool, hmove, hdigest, hfill⟩ := h
    exact ⟨hwf, hregion, hpool, hmove, hdigest, hfill⟩

theorem State.unmapSettled_regions (s : State) (page : Nat) : (s.unmapSettled page).regions = s.regions := by
  unfold State.unmapSettled
  split
  · exact (s.freeFrame_fields _ _).2.2.1
  · rfl

/-- A page that is not MOVING is UNMAPPED after its unmapping, and every other page is as before (R23). -/
theorem State.page_unmapSettled (s : State) {page : Nat} (hp : page < 120) (hstill : ¬ (s.page page).IsMoving) (q : Nat) :
    (s.unmapSettled page).page q = if page = q then .unmapped else s.page q := by
  unfold State.unmapSettled
  split
  · refine (State.page_setPage _ q _ hp).trans ?_
    simp only [State.page, (s.freeFrame_fields _ _).2.1]
  · rename_i hf
    split
    · rename_i hq
      subst hq
      rcases PageEntry.unmapped_or_active hstill with hun | ⟨f, he⟩
      · exact hun
      · rw [PageEntry.frameAt_of_active he] at hf; cases hf
    · rfl

/-- An abandoned move leaves its page on one frame, and every other page as before (R39). -/
theorem State.page_abandonMove {s : State} {page f g c : Nat} {p r : Bool} (hmv : s.page page = .moving f g c p r) (q : Nat) :
    (s.abandonMove page).page q = if page = q then settledEntry f p r else s.page q := by
  have hp : page < 120 := State.page_lt (by rw [hmv]; simp)
  unfold State.abandonMove
  rw [hmv]
  refine (State.page_setPage _ q _ hp).trans ?_
  simp only [State.page, (s.freeFrame_fields _ _).2.1]

theorem State.abandonMove_regions (s : State) (page : Nat) : (s.abandonMove page).regions = s.regions := by
  rw [State.abandonMove_eq]

theorem State.endPassOn_regions (s : State) (id : Nat) : (s.endPassOn id).regions = s.regions := by rw [State.endPassOn_eq]

/-- A page is UNMAPPED after its unmapping, and every other page is as before (R23). -/
theorem State.page_unmapPage (s : State) {page : Nat} (hp : page < 120) (q : Nat) :
    (s.unmapPage page).page q = if page = q then .unmapped else s.page q := by
  unfold State.unmapPage
  split
  next f g c p r hmv =>
    have hmove := State.page_abandonMove hmv
    have hstill : ¬ (((s.abandonMove page).raise (.retire f page .abandoned)).page page).IsMoving := by
      show ¬ ((s.abandonMove page).page page).IsMoving
      rw [hmove, if_pos rfl]
      exact PageEntry.not_moving_of_active (settledEntry_unmarked f p r)
    rw [State.page_unmapSettled _ hp hstill]
    split
    · rfl
    · exact (hmove q).trans (if_neg ‹_›)
  all_goals exact s.page_unmapSettled hp (by simp_all [PageEntry.IsMoving]) q

theorem State.unmapPage_regions (s : State) (page : Nat) : (s.unmapPage page).regions = s.regions := by
  unfold State.unmapPage
  split
  · rw [State.unmapSettled_regions]
    exact s.abandonMove_regions page
  all_goals exact s.unmapSettled_regions page

/-- A page of the region left open unmapped, its move abandoned first (R23, R39). -/
theorem State.SoundBut.unmapPage {s : State} {id page : Nat} (h : s.SoundBut id) (hopen : s.openPage id page) :
    (s.unmapPage page).SoundBut id := by
  unfold State.unmapPage
  split
  next f g c p r hmv =>
    have habandoned : ((s.abandonMove page).raise (.retire f page .abandoned)).SoundBut id := by
      obtain ⟨hwf, hregion, hpool, hmove, hdigest, hfill⟩ := h.abandonMove page
      exact ⟨hwf, hregion, hpool, hmove, hdigest, hfill⟩
    refine habandoned.unmapSettled ?_ ?_
    · show ¬ ((s.abandonMove page).page page).IsMoving
      rw [State.page_abandonMove hmv, if_pos rfl]
      exact PageEntry.not_moving_of_active (settledEntry_unmarked f p r)
    · obtain ⟨q, hq, hm⟩ := hopen
      exact ⟨q, (State.region_congr (s.abandonMove_regions page) id).trans hq, hm⟩
  all_goals exact h.unmapSettled (by simp_all [PageEntry.IsMoving]) hopen

/-- The pages of the region left open unmapped in turn (R23). -/
theorem State.SoundBut.unmapPages {id : Nat} (pages : List Nat) : ∀ {s : State}, s.SoundBut id →
    (∀ p ∈ pages, s.openPage id p) → (pages.foldl State.unmapPage s).SoundBut id ∧
      (pages.foldl State.unmapPage s).regions = s.regions ∧
      ∀ q, (pages.foldl State.unmapPage s).page q = if q ∈ pages then .unmapped else s.page q := by
  induction pages with
  | nil => exact fun h _ => ⟨h, rfl, fun q => by simp⟩
  | cons p pages ih =>
    intro s h hopen
    have ⟨r, hr, hm⟩ := hopen p (List.mem_cons_self ..)
    have hregions := s.unmapPage_regions p
    obtain ⟨hsound, hkeep, hpage⟩ := ih (h.unmapPage (hopen p (List.mem_cons_self ..))) fun q hq => by
      obtain ⟨r', hr', hm'⟩ := hopen q (List.mem_cons_of_mem _ hq)
      exact ⟨r', (State.region_congr hregions id).trans hr', hm'⟩
    refine ⟨hsound, hkeep.trans hregions, fun q => ?_⟩
    rw [List.foldl_cons, hpage, s.page_unmapPage (h.2.1.page_lt hr hm)]
    by_cases hqp : p = q <;> by_cases hq : q ∈ pages <;> simp [hqp, hq, eq_comm]

/-- With its pages UNMAPPED the record of a region goes, and the other regions are as before (R23). -/
theorem State.SoundBut.dropRegion {s : State} {id : Nat} {r : Region} (h : s.SoundBut id) (hr : s.region id = some r)
    (hun : ∀ p ∈ r.pages, s.page p = .unmapped) : (s.setRegion id none).SoundImage := by
  obtain ⟨hwf, hregion, hpool, hmove, hdigest, hfill⟩ := h
  have hid := State.region_lt hr
  have hset : ∀ j q, (s.setRegion id none).region j = some q ↔ j ≠ id ∧ s.region j = some q := fun j q => by
    rw [State.region_setRegion s j none hid]
    by_cases hj : id = j <;> simp [hj, eq_comm]
  refine ⟨hwf, ⟨fun j q hq => ?_, fun i j q q' hq hq' => ?_, fun p hp => ?_⟩, hpool, hmove, fun j q hq => ?_, hfill⟩
  · exact hregion.1 j q ((hset j q).mp hq).2
  · exact hregion.2.1 i j q q' ((hset i q).mp hq).2 ((hset j q').mp hq').2
  · obtain ⟨j, q, hq, hm⟩ := State.regionOf_isSome.mp (hregion.2.2 p hp)
    refine State.regionOf_isSome.mpr ⟨j, q, (hset j q).mpr ⟨?_, hq⟩, hm⟩
    rintro rfl
    rw [hr] at hq
    cases hq
    have hp : (s.page p).mapped = true := hp
    rw [hun p hm] at hp
    cases hp
  · obtain ⟨hj, hq⟩ := (hset j q).mp hq
    exact hdigest j q hj hq

/-- A region cleared: its record is gone, and the other records are as before (R23). -/
theorem State.SoundImage.clearRegion {s : State} (h : s.SoundImage) {id : Nat} (hid : id < 16) :
    (s.clearRegion id).SoundImage ∧ (s.clearRegion id).region id = none ∧
      ∀ j, j ≠ id → (s.clearRegion id).region j = s.region j := by
  unfold State.clearRegion
  split
  · rename_i r hr
    obtain ⟨hsound, hregions, hpage⟩ := State.SoundBut.unmapPages r.pages (h.but id) fun p hp => ⟨r, hr, hp⟩
    unfold State.unmapRegion
    generalize r.pages.foldl State.unmapPage s = s1 at hsound hregions hpage ⊢
    have hr1 : s1.region id = some r := (State.region_congr hregions id).trans hr
    have hend : ∀ j, ((s1.setRegion id none).endPassOn id).region j = if id = j then none else s.region j := fun j => by
      rw [State.region_congr (State.endPassOn_regions _ id), s1.region_setRegion j none hid, State.region_congr hregions]
    refine ⟨(State.imageKept_endPassOn _ id).sound (hsound.dropRegion hr1 fun p hp => by rw [hpage, if_pos hp]), ?_, ?_⟩
    · rw [hend, if_pos rfl]
    · exact fun j hj => by rw [hend, if_neg (Ne.symm hj)]
  · exact ⟨h, ‹_›, fun _ _ => rfl⟩

end Sys2Proof.Machine
end

section
/-! Words of the image written, adopted and copied, and moves taken, keep the laws of the image (R5, R34 to R38, R51). -/

namespace Sys2Proof.Machine

/-! ### One word of a page -/

/-- The old frame that a write is made to as well is named by the entry (R36). -/
theorem PageEntry.names_of_alsoWritten {e : PageEntry} {o k : Nat} (h : e.alsoWritten o = some k) : e.names k := by
  cases e <;> simp_all [PageEntry.alsoWritten, PageEntry.names]

/-- A word of a mapped page has a frame (R20, R36). -/
theorem PageEntry.frameAt_of_mapped {e : PageEntry} (h : e.mapped = true) (o : Nat) : ∃ k, e.frameAt o = some k := by
  cases e with
  | unmapped => cases h
  | _ => exact ⟨_, rfl⟩

/-- An operation on one word of a page of the region left open, which leaves its copy below a move cursor with the same
written value (R36). -/
theorem State.SoundBut.setWord {s t : State} {id page offset : Nat} (h : s.SoundBut id) (hopen : s.openPage id page)
    (hwf : t.mem.wf) (hframe : t = { s with mem := t.mem })
    (hcells : ∀ j, ∀ o < 256, ¬ ((s.page page).names j ∧ o = offset) → t.cell j o = s.cell j o)
    (hcopy : ∀ k old, (s.page page).frameAt offset = some k → (s.page page).alsoWritten offset = some old →
      (t.cell old offset).written = (t.cell k offset).written) : t.SoundBut id := by
  have ⟨_, _, hpool, hmove, _⟩ := h
  have hpage : ∀ q, t.page q = s.page q := fun q => by rw [hframe]; rfl
  refine h.of_page (page := page) hwf (by rw [hframe]) (by rw [hframe]) (fun q _ => hpage q)
    (fun hm => .inl (hpage page ▸ hm)) (fun q k hq hk o ho => ?_) ?_ (fun f g c p r hmv o ho => ?_) fun hn => absurd hopen hn
  · rw [hcells k o ho fun hc => hq (hpool.names_inj hk hc.1)]
  · rw [hframe]; exact hpool
  · rw [hpage] at hmv
    have hc := (hpool.engine.1 page f g c p r hmv).2.2.1
    by_cases hoff : o = offset
    · subst hoff
      exact hcopy g f (by rw [hmv]; simp [PageEntry.frameAt, ho]) (by rw [hmv]; simp [PageEntry.alsoWritten, ho])
    · rw [hcells f o (by omega) fun hn => hoff hn.2, hcells g o (by omega) fun hn => hoff hn.2]
      exact hmove page f g c p r hmv o ho

/-- The record of the region left open set with its true digest makes the image sound (R42). -/
theorem State.SoundBut.setLive {s : State} {id : Nat} {r : Region} (h : s.SoundBut id) (hr : s.region id = some r)
    {live : Digest} (hlive : live = s.regionDigest r) (st : RegionState) :
    (s.setRegion id (some { r with live := live, state := st })).SoundImage := by
  obtain ⟨hwf, hregion, hpool, hmove, hdigest, hfill⟩ := h
  have hid := State.region_lt hr
  have hset : ∀ j, (s.setRegion id (some { r with live := live, state := st })).region j =
      if id = j then some { r with live := live, state := st } else s.region j := fun j => s.region_setRegion j _ hid
  have hbefore : ∀ {j q}, (s.setRegion id (some { r with live := live, state := st })).region j = some q →
      ∃ q', s.region j = some q' ∧ q.first = q'.first ∧ q.count = q'.count := by
    intro j q hq
    rw [hset] at hq
    split at hq
    · rename_i hj
      subst hj; cases hq
      exact ⟨r, hr, rfl, rfl⟩
    · exact ⟨q, hq, rfl, rfl⟩
  refine ⟨hwf, ⟨fun j q hq => ?_, fun i j q q' hq hq' hij => ?_, fun p hp => ?_⟩, hpool, hmove, fun j q hq => ?_, hfill⟩
  · obtain ⟨q', hq', e1, e2⟩ := hbefore hq
    rw [e1, e2]; exact hregion.1 j q' hq'
  · obtain ⟨a, ha, e1, e2⟩ := hbefore hq
    obtain ⟨b, hb, d1, d2⟩ := hbefore hq'
    rw [e1, e2, d1, d2]; exact hregion.2.1 i j a b ha hb hij
  · obtain ⟨j, q, hq, hm⟩ := State.regionOf_isSome.mp (hregion.2.2 p hp)
    by_cases hj : id = j
    · subst hj
      rw [hr] at hq; cases hq
      exact State.regionOf_isSome.mpr ⟨id, _, (hset id).trans (if_pos rfl), hm⟩
    · exact State.regionOf_isSome.mpr ⟨j, q, ((hset j).trans (if_neg hj)).trans hq, hm⟩
  · rw [hset] at hq
    split at hq
    · cases hq
      exact hlive
    · exact hdigest j q (Ne.symm ‹_›) hq

/-! ### Writes -/

theorem State.storeWord_eq (s : State) (page offset : Nat) (v : Word) :
    s.storeWord page offset v = { s with mem := (s.storeWord page offset v).mem } := by
  unfold State.storeWord
  dsimp only []
  split <;> split <;> rfl

theorem State.wf_storeWord {s : State} (page offset : Nat) (v : Word) (hwf : s.mem.wf) :
    (s.storeWord page offset v).mem.wf := by
  unfold State.storeWord
  dsimp only []
  split
  · split
    · exact Memory.wf_set _ _ (Memory.wf_set _ _ hwf)
    · exact Memory.wf_set _ _ hwf
  · split
    · exact Memory.wf_set _ _ hwf
    · exact hwf

/-- A word of the store after a write by page and offset (R5, R36). -/
theorem State.cell_storeWord (s : State) (page : Nat) {offset : Nat} (v : Word) (hwf : s.mem.wf) (hoff : offset < 256)
    (j : Nat) {o : Nat} (ho : o < 256) :
    (s.storeWord page offset v).cell j o =
      if ((s.page page).frameAt offset = some j ∨ (s.page page).alsoWritten offset = some j) ∧ o = offset
      then Cell.write v else s.cell j o := by
  have hset : ∀ (s : State) (x : Option Nat), s.mem.wf →
      (match x with
        | some f => s.setCell f offset (Cell.write v)
        | none => s).mem.wf ∧
      (match x with
        | some f => s.setCell f offset (Cell.write v)
        | none => s).cell j o = if x = some j ∧ o = offset then Cell.write v else s.cell j o := by
    intro s x hwf
    cases x with
    | none => exact ⟨hwf, by simp⟩
    | some f =>
      refine ⟨Memory.wf_set _ _ hwf, ?_⟩
      simp only [s.cell_setCell _ hwf hoff ho, Option.some.injEq, eq_comm]
  unfold State.storeWord
  obtain ⟨hwf1, hcell1⟩ := hset s ((s.page page).frameAt offset) hwf
  refine (hset _ ((s.page page).alsoWritten offset) hwf1).2.trans ?_
  rw [hcell1]
  by_cases ho : o = offset <;> simp [ho]
  split <;> simp_all

/-- A write with its hand-on keeps the laws of the image: the live digest takes the term of the change (R5, R42, R46). -/
theorem State.SoundImage.writeWord {s : State} (h : s.SoundImage) (page : Nat) {offset : Nat} (v : Word)
    (hoff : offset < 256) : (s.writeWord page offset v).SoundImage := by
  unfold State.writeWord
  split
  · rename_i hm
    obtain ⟨hwf, hregion, hpool, hmove, hdigest, hfill⟩ := id h
    obtain ⟨⟨id, r⟩, hof⟩ := Option.isSome_iff_exists.mp (hregion.2.2 page hm)
    obtain ⟨hr, hp⟩ := State.regionOf_some hof
    have hcell := fun j o ho => s.cell_storeWord page v hwf hoff j (o := o) ho
    have hframe := s.storeWord_eq page offset v
    have hwf1 := State.wf_storeWord page offset v hwf
    unfold State.handOn
    generalize s.storeWord page offset v = t at hcell hframe hwf1 ⊢
    have hregions : t.regions = s.regions := by rw [hframe]
    have hpage : ∀ q, t.page q = s.page q := fun q => by rw [hframe]; rfl
    have hother : ∀ j, ∀ o < 256, ¬ ((s.page page).names j ∧ o = offset) → t.cell j o = s.cell j o := fun j o ho hn => by
      rw [hcell j o ho, if_neg]
      rintro ⟨hf | hf, rfl⟩
      · exact hn ⟨PageEntry.names_of_frameAt hf, rfl⟩
      · exact hn ⟨PageEntry.names_of_alsoWritten hf, rfl⟩
    have hstored : t.SoundBut id := (h.but id).setWord ⟨r, hr, hp⟩ hwf1 hframe hother fun k old hk hold => by
      rw [hcell old offset hoff, hcell k offset hoff, if_pos ⟨.inr hold, rfl⟩, if_pos ⟨.inl hk, rfl⟩]
    have hlive : r.live + changeTerm r.seed (r.offsetOf page offset) (s.writtenAt page offset) v = t.regionDigest r := by
      rw [hdigest id r hr]
      refine (State.regionDigest_change hp hoff ?_ fun q _ o ho hne => ?_).symm
      · obtain ⟨k, hf⟩ := PageEntry.frameAt_of_mapped hm offset
        rw [State.writtenAt_of_frameAt (by rw [hpage]; exact hf), hcell k offset hoff, if_pos ⟨.inl hf, rfl⟩]
        rfl
      · refine State.writtenAt_congr (by rw [hpage]) fun k hk => ?_
        rw [hother k o ho]
        rintro ⟨hn, rfl⟩
        exact hne.elim (fun hq => hq (hpool.names_inj (PageEntry.names_of_frameAt hk) hn)) fun hc => hc rfl
    rw [State.regionOf_congr hregions, hof]
    exact State.ImageKept.sound (.of_image rfl) (hstored.setLive ((State.region_congr hregions id).trans hr) hlive r.state)
  · exact h

/-- A run of writes inside one page (R16, R149). -/
theorem State.SoundImage.writeRun (page : Nat) (ws : List Word) : ∀ {s : State} {offset : Nat}, s.SoundImage →
    offset + ws.length ≤ 256 → (s.writeRun page offset ws).SoundImage := by
  induction ws with
  | nil => exact fun h _ => h
  | cons w ws ih =>
    intro s offset h hl
    rw [List.length_cons] at hl
    exact ih (h.writeWord page w (by omega)) (by omega)

/-! ### ADOPT -/

/-- ADOPT gives a word that can be recovered its stored value as its written one (R51). -/
theorem Cell.adopt_written {c : Cell} {v : Word} (hv : c.content = .clean v ∨ c.content = .single v) :
    c.adopt.written = v := by
  unfold Cell.adopt
  rcases hv with hv | hv <;> rw [hv]

/-- ADOPT at a word that can be recovered: its frame, and the old frame below a move cursor, take the stored value as their
written one (R51). -/
theorem State.SoundBut.adoptCell {s : State} {id page offset k : Nat} {v : Word} (h : s.SoundBut id)
    (hopen : s.openPage id page) (hoff : offset < 256) (hk : (s.page page).frameAt offset = some k)
    (hv : (s.cell k offset).content = .clean v ∨ (s.cell k offset).content = .single v) :
    (match (s.page page).alsoWritten offset with
      | some old => (s.setCell k offset (s.cell k offset).adopt).setCell old offset
          { (s.setCell k offset (s.cell k offset).adopt).cell old offset with written := v }
      | none => s.setCell k offset (s.cell k offset).adopt).SoundBut id := by
  have hnames := PageEntry.names_of_frameAt hk
  have hwf1 : (s.setCell k offset (s.cell k offset).adopt).mem.wf := Memory.wf_set _ _ h.1
  have hcell1 : ∀ j, ∀ o < 256, (s.setCell k offset (s.cell k offset).adopt).cell j o =
      if j = k ∧ o = offset then (s.cell k offset).adopt else s.cell j o := fun j o ho => s.cell_setCell _ h.1 hoff ho
  split
  · rename_i old hold
    refine h.setWord (offset := offset) hopen (Memory.wf_set _ _ hwf1) rfl (fun j o ho hn => ?_) fun k' old' hk' hold' => ?_
    · rw [State.cell_setCell _ _ hwf1 hoff ho, if_neg, hcell1 j o ho, if_neg]
      · rintro ⟨rfl, rfl⟩; exact hn ⟨hnames, rfl⟩
      · rintro ⟨rfl, rfl⟩; exact hn ⟨PageEntry.names_of_alsoWritten hold, rfl⟩
    · cases hk.symm.trans hk'
      cases hold.symm.trans hold'
      rw [State.cell_setCell _ _ hwf1 hoff hoff, State.cell_setCell _ _ hwf1 hoff hoff, if_pos ⟨rfl, rfl⟩]
      split
      · rfl
      · rw [hcell1 k offset hoff, if_pos ⟨rfl, rfl⟩, Cell.adopt_written hv]
  · rename_i hold
    refine h.setWord (offset := offset) hopen hwf1 rfl (fun j o ho hn => ?_) fun k' old' _ hold' => ?_
    · rw [hcell1 j o ho, if_neg]
      rintro ⟨rfl, rfl⟩; exact hn ⟨hnames, rfl⟩
    · rw [hold] at hold'; cases hold'

theorem State.SoundBut.adoptWord {x : State × AdoptCount} {id page offset : Nat} (h : x.1.SoundBut id)
    (hopen : x.1.openPage id page) (hoff : offset < 256) : (State.adoptWord page x offset).1.SoundBut id := by
  unfold State.adoptWord
  dsimp only []
  split
  · exact h
  · split
    · exact h
    · exact h.adoptCell hopen hoff ‹_› (.inl ‹_›)
    · exact h.adoptCell hopen hoff ‹_› (.inr ‹_›)

theorem State.adoptWord_regions (page offset : Nat) (x : State × AdoptCount) :
    (State.adoptWord page x offset).1.regions = x.1.regions := by
  unfold State.adoptWord
  dsimp only []
  split
  · rfl
  · split
    · rfl
    · split <;> rfl
    · split <;> rfl

/-- ADOPT at words of pages of one region keeps what it needs of the image, and the region records (R51). -/
theorem State.SoundBut.adoptFold {α : Type} {id : Nat} {f : State × AdoptCount → α → State × AdoptCount} {P : α → Prop}
    (s0 : State) (hf : ∀ x a, P a → x.1.SoundBut id → x.1.regions = s0.regions →
      (f x a).1.SoundBut id ∧ (f x a).1.regions = s0.regions) (l : List α) :
    ∀ x : State × AdoptCount, (∀ a ∈ l, P a) → x.1.SoundBut id → x.1.regions = s0.regions →
      (l.foldl f x).1.SoundBut id ∧ (l.foldl f x).1.regions = s0.regions := by
  induction l with
  | nil => exact fun x _ h hr => ⟨h, hr⟩
  | cons a l ih =>
    intro x hP h hr
    obtain ⟨h1, hr1⟩ := hf x a (hP a (List.mem_cons_self ..)) h hr
    exact ih (f x a) (fun b hb => hP b (List.mem_cons_of_mem _ hb)) h1 hr1

/-- ADOPT of a region, whose live digest it sets to the formula over the adopted values (R42, R51). -/
theorem State.SoundImage.adoptRegion {s : State} (h : s.SoundImage) {id : Nat} {r : Region} (hr : s.region id = some r) :
    (s.adoptRegion id r).1.SoundImage := by
  have hpages := State.SoundBut.adoptFold (f := State.adoptPage) (P := fun p => p ∈ r.pages) s
    (fun x p hp hx hxr => State.SoundBut.adoptFold (f := State.adoptWord p) (P := fun o => o < 256) s
      (fun y o ho hy hyr => ⟨hy.adoptWord ⟨r, (State.region_congr hyr id).trans hr, hp⟩ ho,
        (State.adoptWord_regions p o y).trans hyr⟩) (List.range 256) x (fun o ho => List.mem_range.mp ho) hx hxr)
    r.pages (s, ⟨0, 0⟩) (fun _ hp => hp) (h.but id) rfl
  unfold State.adoptRegion
  generalize r.pages.foldl State.adoptPage (s, ⟨0, 0⟩) = x at hpages ⊢
  obtain ⟨hsound, hregions⟩ := hpages
  exact (State.imageKept_restartPassOn _ id).sound
    (hsound.setLive ((State.region_congr hregions id).trans hr) rfl .clean)

/-! ### A region defined -/

theorem PageEntry.mapped_of_ne_unmapped {e : PageEntry} (h : e ≠ .unmapped) : e.mapped = true := by
  cases e with
  | unmapped => exact absurd rfl h
  | active | restoring | poisoned | moving => rfl

/-- A region defined with the zero-image digest on pages that no other region holds, none of which is mapped (R22, R45). -/
theorem State.SoundImage.defineRegion {s : State} (h : s.SoundImage) {id first count : Nat} (cls : RegionClass)
    (seed : Nat) (hid : id < 16) (hnone : s.region id = none) (hcount : 1 ≤ count ∧ count ≤ 16) (hin : first + count ≤ 120)
    (hfree : ∀ j q, s.region j = some q → first + count ≤ q.first ∨ q.first + q.count ≤ first) :
    (s.setRegion id (some (Region.define first count cls seed))).SoundImage := by
  obtain ⟨hwf, hregion, hpool, hmove, hdigest, hfill⟩ := h
  generalize hnew : Region.define first count cls seed = new
  have hf : new.first = first := by rw [← hnew]; rfl
  have hc : new.count = count := by rw [← hnew]; rfl
  have hset : ∀ j q, (s.setRegion id (some new)).region j = some q ↔
      j = id ∧ q = new ∨ j ≠ id ∧ s.region j = some q := fun j q => by
    rw [State.region_setRegion s j _ hid]
    by_cases hj : id = j <;> simp [hj, eq_comm]
  have hne : ∀ {j q}, s.region j = some q → j ≠ id := by
    rintro j q hq rfl
    rw [hnone] at hq; cases hq
  refine ⟨hwf, ⟨fun j q hq => ?_, fun i j a b ha hb hij => ?_, fun p hp => ?_⟩, hpool, hmove, fun j q hq => ?_, hfill⟩
  · rcases (hset j q).mp hq with ⟨-, rfl⟩ | ⟨-, hq⟩
    · rw [hf, hc]; exact ⟨hcount.1, hcount.2, hin⟩
    · exact hregion.1 j q hq
  · rcases (hset i a).mp ha with ⟨rfl, rfl⟩ | ⟨-, ha'⟩ <;> rcases (hset j b).mp hb with ⟨rfl, rfl⟩ | ⟨-, hb'⟩
    · exact absurd rfl hij
    · rw [hf, hc]; exact hfree j b hb'
    · rw [hf, hc]; exact (hfree i a ha').symm
    · exact hregion.2.1 i j a b ha' hb' hij
  · obtain ⟨j, q, hq, hm⟩ := State.regionOf_isSome.mp (hregion.2.2 p hp)
    exact State.regionOf_isSome.mpr ⟨j, q, (hset j q).mpr (.inr ⟨hne hq, hq⟩), hm⟩
  · rcases (hset j q).mp hq with ⟨-, rfl⟩ | ⟨-, hq⟩
    · have hzero : (s.setRegion id (some q)).regionDigest q = zeroImage q.count q.seed := by
        refine State.regionDigest_of_zero fun p hp o _ => ?_
        refine State.writtenAt_of_unmapped o ?_
        by_contra hne
        have hm := PageEntry.mapped_of_ne_unmapped hne
        obtain ⟨j, q', hq', hm'⟩ := State.regionOf_isSome.mp (hregion.2.2 p hm)
        have hapart := hfree j q' hq'
        rw [Region.mem_pages] at hp hm'
        omega
      rw [hzero, ← hnew]
      rfl
    · exact hdigest j q hq

/-! ### Moves -/

/-- The frame of an ACTIVE page marked WORN: with the engine idle it is the new frame of no move (R34). -/
theorem State.SoundImage.markWorn {s : State} (h : s.SoundImage) (hidle : s.moving = none) {page frame : Nat}
    (hactive : s.page page = .active frame) :
    (s.setFrame frame { s.frame frame with worn := true }).SoundImage := by
  have ⟨hwf, _, hpool, _⟩ := h
  obtain ⟨hlt, hinUse, -⟩ := hpool.1 page frame (by rw [hactive]; rfl)
  have hframe := fun j => s.frame_setFrame j { s.frame frame with worn := true } hlt
  have hstill : ∀ q, ¬ (s.page q).IsMoving := fun q => hpool.engine.not_moving (by rw [hidle]; simp)
  have hsame : ∀ j, ((s.setFrame frame { s.frame frame with worn := true }).frame j).state = (s.frame j).state ∧
      ((s.setFrame frame { s.frame frame with worn := true }).frame j).page = (s.frame j).page := fun j => by
    rw [hframe]
    split
    · rename_i hj
      subst hj; exact ⟨rfl, rfl⟩
    · exact ⟨rfl, rfl⟩
  refine State.soundImage_iff.mpr ((State.soundImage_iff.mp h).of_page (page := page) hwf rfl rfl (fun _ _ => rfl) .inl
    (fun _ _ _ _ _ _ => rfl) ⟨fun q k hk => ?_, fun k q hk => ?_, fun k hk => ?_, State.engineLaw_of_still hidle hstill⟩
    (fun f g c p r hq => absurd ⟨f, g, c, p, r, hq⟩ (hstill page)) fun _ _ _ => rfl)
  · rw [(hsame k).1, (hsame k).2]; exact hpool.1 q k hk
  · rw [(hsame k).1]; exact hpool.2.1 k q ((hsame k).2 ▸ hk)
  · rw [(hsame k).1]
    rw [hframe] at hk
    split at hk
    · rename_i hj
      subst hj; exact hinUse
    · exact hpool.2.2.1 k hk

/-- An ACTIVE page begins to move to a zero-filled spare, with the cursor at 0 (R28, R34). -/
theorem State.SoundImage.beginMove {s : State} (h : s.SoundImage) (hidle : s.moving = none) {page frame spare : Nat}
    (hactive : s.page page = .active frame) (hlow : s.lowestFree = some spare) :
    State.SoundImage { (s.allocate spare page).setPage page (.moving frame spare 0 false false) with moving := some page } := by
  have ⟨hwf, _, hpool, _⟩ := h
  obtain ⟨hlt, hfree⟩ := State.lowestFree_some hlow
  have hp : page < 120 := State.page_lt (by rw [hactive]; simp)
  have hne : ∀ q j, (s.page q).names j → j ≠ spare := fun q j hj hc => hpool.not_names_of_free hfree q (hc ▸ hj)
  have hnames : (s.page page).names frame := by rw [hactive]; rfl
  generalize ht : ({ (s.allocate spare page).setPage page (.moving frame spare 0 false false) with
    moving := some page } : State) = t
  have hself : t.page page = .moving frame spare 0 false false := by
    rw [← ht]; exact (State.page_setPage _ _ _ hp).trans (if_pos rfl)
  have hother : ∀ q, q ≠ page → t.page q = s.page q := fun q hq => by
    rw [← ht]; exact (State.page_setPage _ _ _ hp).trans (if_neg (Ne.symm hq))
  have hframe : ∀ j, t.frame j = if spare = j then { s.frame spare with state := .inUse, page := some page } else s.frame j :=
    fun j => by rw [← ht]; exact s.frame_allocate page j hlt
  have hcell : ∀ q j, (s.page q).names j → ∀ o < 256, t.cell j o = s.cell j o := fun q j hj o ho => by
    rw [← ht]; exact (s.cell_allocate spare page j hwf ho).trans (if_neg (hne q j hj))
  have hworn : (s.frame spare).worn = false := by
    by_contra hw
    have := hpool.2.2.1 spare (by simpa using hw)
    rw [hfree] at this; cases this
  refine State.soundImage_iff.mpr ((State.soundImage_iff.mp h).of_page (page := page) ?wf ?regions ?opening hother
    (fun _ => .inl (by rw [hactive]; rfl)) (fun q j _ hj o ho => by rw [hcell q j hj o ho]) ?pool
    (fun f g c p r hq o ho => ?move) fun _ o ho => ?written)
  case wf => rw [← ht]; exact State.wf_allocate spare page hwf
  case regions => rw [← ht]; rfl
  case opening => rw [← ht]; rfl
  case pool =>
    refine hpool.attach (page := page) hlt hfree hother (fun j => ?_) (by rw [hframe, if_pos rfl]; exact ⟨rfl, rfl⟩)
      (fun j hj => by rw [hframe, if_neg (Ne.symm hj)]) ⟨fun q f g c p r hq => ?_, fun q hq => ?_⟩
    · rw [hself, hactive]; rfl
    · by_cases hqp : q = page
      · subst hqp
        rw [hself] at hq
        cases hq
        exact ⟨by rw [← ht], hne q frame hnames, by omega, by rw [hframe, if_pos rfl]; exact hworn⟩
      · rw [hother q hqp] at hq
        exact absurd ⟨f, g, c, p, r, hq⟩ (hpool.engine.not_moving (by rw [hidle]; simp))
    · have hq : q = page := by rw [← ht] at hq; exact (Option.some.inj hq).symm
      rw [hq, hself]
      exact ⟨_, _, _, _, _, rfl⟩
  case move =>
    rw [hself] at hq
    cases hq
    omega
  case written =>
    rw [State.writtenAt_of_frameAt (s := s) (k := frame) (by rw [hactive]; rfl),
      State.writtenAt_of_frameAt (k := frame) (by rw [hself]; rfl), hcell page frame hnames o ho]

/-- The take of a queued frame (R34). -/
theorem State.SoundImage.takeMove {s : State} (h : s.SoundImage) (frame : Nat) (rest : List Nat) (hidle : s.moving = none) :
    (s.takeMove frame rest).SoundImage := by
  have hqueue : State.SoundImage { s with moveQueue := rest } := State.ImageKept.sound (.of_image rfl) h
  unfold State.takeMove
  dsimp only []
  split
  · exact hqueue
  · split
    · split
      · exact (State.imageKept_raise _ _).sound (hqueue.markWorn hidle ‹_›)
      · exact hqueue.beginMove hidle ‹_› ‹_›
    · exact hqueue

theorem Cell.copy_written (c : Cell) : c.copy.written = c.written := by
  unfold Cell.copy
  split <;> rfl

section CopyStep

/-! The state in which the word under the cursor of a move has been copied to the new frame (R35, R37). -/

variable {s : State} {page f g c : Nat} {p r : Bool} (h : s.SoundImage) (hmv : s.page page = .moving f g c p r)
include h hmv

theorem State.SoundImage.cell_copied (j : Nat) {o : Nat} (ho : o < 256) :
    (s.setCell g c (s.cell f c).copy).cell j o = if j = g ∧ o = c then (s.cell f c).copy else s.cell j o :=
  s.cell_setCell _ h.1 (h.2.2.1.engine.1 page f g c p r hmv).2.2.1 ho

/-- Up to and with the word under the cursor both frames hold the same written values (R36). -/
theorem State.SoundImage.written_copied {o : Nat} (ho : o ≤ c) :
    ((s.setCell g c (s.cell f c).copy).cell f o).written = ((s.setCell g c (s.cell f c).copy).cell g o).written := by
  obtain ⟨-, hfg, hc, -⟩ := h.2.2.1.engine.1 page f g c p r hmv
  rw [h.cell_copied hmv f (by omega), h.cell_copied hmv g (by omega), if_neg fun hn => hfg hn.1]
  by_cases hoc : o = c
  · rw [if_pos ⟨rfl, hoc⟩, Cell.copy_written, hoc]
  · rw [if_neg fun hn => hoc hn.2]
    exact h.2.2.2.1 page f g c p r hmv o (by omega)

/-- The old frame still holds every written value of the page (R36). -/
theorem State.SoundImage.writtenAt_moving {o : Nat} (ho : o < 256) :
    s.writtenAt page o = ((s.setCell g c (s.cell f c).copy).cell f o).written := by
  obtain ⟨-, hfg, -⟩ := h.2.2.1.engine.1 page f g c p r hmv
  rw [h.cell_copied hmv f ho, if_neg fun hn => hfg hn.1]
  unfold State.writtenAt
  rw [hmv]
  simp only [PageEntry.frameAt]
  split
  · exact (h.2.2.2.1 page f g c p r hmv o ‹_›).symm
  · rfl

/-- The frames of other pages are as before. -/
theorem State.SoundImage.cell_copied_other {q k : Nat} (hq : q ≠ page) (hk : (s.page q).names k) {o : Nat} (ho : o < 256) :
    ((s.setCell g c (s.cell f c).copy).cell k o).written = (s.cell k o).written := by
  rw [h.cell_copied hmv k ho, if_neg]
  rintro ⟨rfl, -⟩
  exact hq (h.2.2.1.names_inj hk (by rw [hmv]; exact .inr rfl))

/-- The cursor goes on behind a word copied (R35). -/
theorem State.SoundImage.advanceMove (hc : c + 1 < 256) :
    ((s.setCell g c (s.cell f c).copy).setPage page (.moving f g (c + 1) p r)).SoundImage := by
  have hp : page < 120 := State.page_lt (by rw [hmv]; simp)
  have ⟨hwf, _, hpool, _⟩ := h
  have hcopied := fun o ho => h.written_copied hmv (o := o) ho
  have hwas := fun o ho => h.writtenAt_moving hmv (o := o) ho
  have hkept := fun q k hq hk o ho => h.cell_copied_other hmv (q := q) (k := k) hq hk (o := o) ho
  have hwf1 : (s.setCell g c (s.cell f c).copy).mem.wf := Memory.wf_set _ _ hwf
  generalize hs1 : s.setCell g c (s.cell f c).copy = s1 at hcopied hwas hkept hwf1 ⊢
  have hpages : ∀ q, s1.page q = s.page q := fun q => by rw [← hs1]; rfl
  have hpage := fun q => s1.page_setPage q (.moving f g (c + 1) p r) hp
  have hself := (hpage page).trans (if_pos rfl)
  have hother : ∀ q, q ≠ page → (s1.setPage page (.moving f g (c + 1) p r)).page q = s.page q := fun q hq =>
    (hpage q).trans ((if_neg (Ne.symm hq)).trans (hpages q))
  have hnames : ∀ q j, ((s1.setPage page (.moving f g (c + 1) p r)).page q).names j ↔ (s.page q).names j := fun q j => by
    by_cases hq : q = page
    · rw [hq, hself, hmv]; rfl
    · rw [hother q hq]
  have hframes : ∀ j, s1.frame j = s.frame j := fun j => by rw [← hs1]; rfl
  have hmoving : s1.moving = s.moving := by rw [← hs1]; rfl
  refine State.soundImage_iff.mpr ((State.soundImage_iff.mp h).of_page (page := page) hwf1 (by rw [← hs1]; rfl)
    (by rw [← hs1]; rfl) hother (fun _ => .inl (by rw [hmv]; rfl)) hkept ?pool (fun f' g' c' p' r' hq o ho => ?move)
    fun _ o ho => ?written)
  case pool =>
    refine ⟨fun q j hj => ?_, fun j q hj => ?_, fun j hj => ?_, fun q f' g' c' p' r' hq => ?_, fun q hq => ?_⟩
    · have := hpool.1 q j ((hnames q j).mp hj)
      rwa [← hframes] at this
    · have := hpool.2.1 j q (by rwa [← hframes])
      rwa [← hframes, ← hnames] at this
    · have := hpool.2.2.1 j (by rwa [← hframes])
      rwa [← hframes] at this
    · by_cases hqp : q = page
      · subst hqp
        rw [hself] at hq
        cases hq
        obtain ⟨h1, h2, -, h4⟩ := hpool.engine.1 q f g c p r hmv
        exact ⟨hmoving.trans h1, h2, hc, (congrArg FrameRecord.worn (hframes g)).trans h4⟩
      · rw [hother q hqp] at hq
        have := hpool.engine.1 q f' g' c' p' r' hq
        rwa [← hframes, ← hmoving] at this
    · by_cases hqp : q = page
      · rw [hqp, hself]; exact ⟨_, _, _, _, _, rfl⟩
      · rw [hother q hqp]; exact hpool.engine.2 q (hmoving ▸ hq)
  case move =>
    rw [hself] at hq
    cases hq
    exact hcopied o (by omega)
  case written =>
    rw [hwas o ho]
    by_cases hoc : o < c + 1
    · rw [State.writtenAt_of_frameAt (k := g) (by rw [hself]; simp [PageEntry.frameAt, hoc])]
      exact (hcopied o (by omega)).symm
    · rw [State.writtenAt_of_frameAt (k := f) (by rw [hself]; simp [PageEntry.frameAt, hoc])]
      rfl

/-- The last word copied ends the move: the page stands on its new frame, and the old one is RETIRED (R38). -/
theorem State.SoundImage.endMove (hc : 255 ≤ c) :
    ((s.setCell g c (s.cell f c).copy).endMove page f g p r).SoundImage := by
  have hp : page < 120 := State.page_lt (by rw [hmv]; simp)
  have ⟨hwf, _, hpool, _⟩ := h
  obtain ⟨hmoving, hfg, -⟩ := hpool.engine.1 page f g c p r hmv
  have hf : (s.page page).names f := by rw [hmv]; exact .inl rfl
  have hlt := (hpool.1 page f hf).1
  have hcopied := fun o ho => h.written_copied hmv (o := o) ho
  have hwas := fun o ho => h.writtenAt_moving hmv (o := o) ho
  have hkept := fun q k hq hk o ho => h.cell_copied_other hmv (q := q) (k := k) hq hk (o := o) ho
  have hwf1 : (s.setCell g c (s.cell f c).copy).mem.wf := Memory.wf_set _ _ hwf
  generalize hs1 : s.setCell g c (s.cell f c).copy = s1 at hcopied hwas hkept hwf1 ⊢
  have he := settledEntry_unmarked g p r
  have hstill := PageEntry.not_moving_of_active he
  generalize ht : s1.endMove page f g p r = t
  have hself : t.page page = settledEntry g p r := by
    rw [← ht]; exact (s1.page_setPage page (settledEntry g p r) hp).trans (if_pos rfl)
  have hother : ∀ q, q ≠ page → t.page q = s.page q := fun q hq => by
    rw [← ht, ← hs1]; exact (State.page_setPage _ q (settledEntry g p r) hp).trans (if_neg (Ne.symm hq))
  have hframe : ∀ j, t.frame j = if f = j then { s1.frame f with state := .retired, worn := false, page := none } else s1.frame j :=
    fun j => by rw [← ht]; exact State.frame_setFrame _ j _ hlt
  have hframes : ∀ j, s1.frame j = s.frame j := fun j => by rw [← hs1]; rfl
  have hcell : ∀ j o, t.cell j o = s1.cell j o := fun j o => by rw [← ht]; rfl
  refine State.soundImage_iff.mpr ((State.soundImage_iff.mp h).of_page (page := page) ?wf ?regions ?opening hother
    (fun _ => .inl (by rw [hmv]; rfl)) (fun q k hq hk o ho => by rw [hcell]; exact hkept q k hq hk o ho) ?pool
    (fun f' g' c' p' r' hq => absurd ⟨f', g', c', p', r', hself ▸ hq⟩ hstill) fun _ o ho => ?written)
  case wf => rw [← ht]; exact hwf1
  case regions => rw [← ht, ← hs1]; rfl
  case opening => rw [← ht, ← hs1]; rfl
  case pool =>
    refine hpool.detach hf hother (fun j => ?_) (by rw [hframe, if_pos rfl]; exact ⟨rfl, rfl⟩)
      (fun j hj => by rw [hframe, if_neg (Ne.symm hj), hframes]) ?_
    · rw [hself, PageEntry.names_of_active he, hmv]
      simp only [PageEntry.names]
      constructor
      · rintro rfl; exact ⟨.inr rfl, Ne.symm hfg⟩
      · rintro ⟨rfl | rfl, hj⟩
        · exact absurd rfl hj
        · rfl
    · refine State.engineLaw_of_still (by rw [← ht]; rfl) fun q => ?_
      by_cases hq : q = page
      · rw [hq, hself]; exact hstill
      · rw [hother q hq]
        exact hpool.engine.not_moving (by rw [hmoving]; simpa using Ne.symm hq)
  case written =>
    rw [hwas o ho, State.writtenAt_of_frameAt (by rw [hself]; exact PageEntry.frameAt_of_active he o), hcell]
    exact (hcopied o (by omega)).symm

end CopyStep

/-- A move step: the correcting read of the old word, its copy, and the cursor or the end of the move (R35 to R38). -/
theorem State.SoundImage.stepMove {s : State} (h : s.SoundImage) (page : Nat) : (s.stepMove page).SoundImage := by
  unfold State.stepMove
  split
  next f g c _ _ hmv =>
    have hread := s.imageKept_readCell f page c .move
    generalize s.readCell f page c .move = x at hread ⊢
    obtain ⟨s1, _⟩ := x
    dsimp only [] at hread ⊢
    have hsound := hread.sound h
    obtain ⟨p, r, hmv1⟩ := PageEntry.moving_of_unmarked (hread.pages page) hmv
    have hcopied : (s1.setCell g c (s1.cell f c).copy).page page = .moving f g c p r := hmv1
    rw [hcopied]
    dsimp only []
    split
    · exact hsound.advanceMove hmv1 ‹_›
    · exact hsound.endMove hmv1 (by omega)
  all_goals exact h

end Sys2Proof.Machine
end

section
/-! Every command keeps the laws of the image, and so every step does (R21, R27, R36, R42). -/

namespace Sys2Proof.Machine

/-! ### The sweep and the disturbances -/

/-- While the start-up sweep runs no region is defined, so the image is sound whatever the words of the store hold (R18). -/
theorem State.SoundImage.sweepMem {s : State} (h : s.SoundImage) (hlaw : s.LaneLaw) (hsweep : s.sweep.isSome)
    {mem : Memory} (hwf : mem.wf) : State.SoundImage { s with mem := mem } := by
  obtain ⟨-, hregion, hpool, -, -, hfill⟩ := h
  obtain ⟨-, -, -, -, -, -, -, -, hlaw⟩ := hlaw
  obtain ⟨-, -, hnone, -⟩ := hlaw hsweep
  refine ⟨hwf, hregion, hpool, fun page f g c p r hmv => ?_, fun id r hr => ?_, hfill⟩
  · have hmv : s.page page = .moving f g c p r := hmv
    obtain ⟨id, q, hq, -⟩ := State.regionOf_isSome.mp (hregion.2.2 page (by rw [hmv]; rfl))
    rw [hnone] at hq; cases hq
  · have hr : s.region id = some r := hr
    rw [hnone] at hr; cases hr

theorem State.SoundImage.sweepEnded {s : State} (h : s.SoundImage) (hlaw : s.LaneLaw) : s.sweepEnded.SoundImage := by
  unfold State.sweepEnded
  split
  · exact h
  · rename_i done hsweep
    have hcleared := h.sweepMem hlaw (by rw [hsweep]; rfl) (Memory.wf_clear done Config.storeWords h.1)
    exact State.ImageKept.sound (.of_image rfl) hcleared

theorem State.SoundImage.sweepOn {s : State} (h : s.SoundImage) (hlaw : s.LaneLaw) : s.sweepOn.SoundImage := by
  unfold State.sweepOn
  split
  · exact h
  · rename_i done hsweep
    have hcleared := h.sweepMem hlaw (by rw [hsweep]; rfl)
      (Memory.wf_clear done (min Config.storeWords (done + Config.sweepAdvance s.freeCount)) h.1)
    exact State.ImageKept.sound (.of_image rfl) hcleared

/-- A disturbance leaves the written value of its word (R2, R3). -/
theorem State.SoundImage.disturb {s : State} (h : s.SoundImage) (hlaw : s.LaneLaw) (frame offset : Nat) {f : Cell → Cell}
    (hf : ∀ c, (f c).written = c.written) : (s.disturb frame offset f).SoundImage :=
  (s.sweepOn.imageKept_setCell (hf _)).sound (h.sweepOn hlaw)

theorem Cell.disturb_written (c : Cell) : c.disturb.written = c.written := by unfold Cell.disturb; split <;> rfl
theorem Cell.silent_written (v : Word) (c : Cell) : (c.silent v).written = c.written := by unfold Cell.silent; split <;> rfl

/-! ### Requests -/

/-- A request row keeps a sound image if the event of its block does (log 3). -/
theorem State.SoundImage.request {s : State} (h : s.SoundImage) (c : Instr) {own : State → State}
    (hown : ∀ t : State, t.SoundImage → (own t).SoundImage) : (s.request c own).SoundImage := by
  unfold State.request
  split
  · exact hown _ (s.imageKept_takeUp.sound h)
  · have harrived := (s.imageKept_arrive c).sound h
    dsimp only []
    split
    · exact hown _ ((State.imageKept_takeUp _).sound harrived)
    · exact harrived

/-- The same for a block's event that keeps the image of every state. -/
theorem State.SoundImage.requestKept {s : State} (h : s.SoundImage) (c : Instr) {own : State → State}
    (hown : ∀ t : State, t.ImageKept (own t)) : (s.request c own).SoundImage :=
  h.request c fun t => (hown t).sound

/-! ### The host port -/

namespace State

variable (s : State)

theorem imageKept_judge (kind tag : Nat) (ok : Bool) (c : Option Instr) : s.ImageKept (s.judge kind tag ok c) := by
  unfold judge
  split
  · exact s.imageKept_owe _ _ _ _
  · unfold judgeIdle
    split
    · exact s.imageKept_answerNow _ _ _
    · split
      · exact s.imageKept_answerNow _ _ _
      · split
        · exact s.imageKept_answerNow _ _ _
        · split
          · exact s.imageKept_serve1 _ _ _
          · unfold refuseCode
            split <;> exact (s.imageKept_serve1 _ _ _).trans (imageKept_reply _ _ _)

theorem imageKept_receiveByte (b : Byte) : s.ImageKept (s.receiveByte b) := by
  unfold receiveByte
  split
  · split
    · exact s.imageKept_setHostRx _
    · exact .refl s
  · dsimp only []
    split
    · exact ((s.imageKept_setHostRx _).trans (imageKept_badFrame _)).trans (imageKept_setHostRx _ _)
    · split
      · refine (s.imageKept_setHostRx []).trans ?_
        unfold checkHostFrame
        dsimp only []
        split
        · exact imageKept_judge _ _ _ _ _
        · exact imageKept_badFrame _
      · exact s.imageKept_setHostRx _

/-! ### Events of blocks that do not touch the image -/

theorem imageKept_doneClassEvent (cls : Nat) : s.ImageKept (s.doneClassEvent cls) := by
  unfold doneClassEvent
  split
  · exact s.imageKept_reply _ _
  · split
    · exact (s.imageKept_attention _).trans (imageKept_reply _ _ _)
    · exact s.imageKept_reply _ _

theorem imageKept_doneNoClassEvent : s.ImageKept s.doneNoClassEvent := by
  unfold doneNoClassEvent
  split
  · exact (s.imageKept_attention _).trans (imageKept_reply _ _ _)
  · exact s.imageKept_reply _ _

theorem imageKept_takeEvent : s.ImageKept s.takeEvent := by
  unfold takeEvent
  split
  · exact (s.imageKept_attention _).trans (imageKept_reply _ _ _)
  · exact s.imageKept_reply _ _

theorem imageKept_priorityEvent (rotating : Bool) (lowest : Nat) : s.ImageKept (s.priorityEvent rotating lowest) :=
  (s.imageKept_attention _).trans (imageKept_reply _ _ _)

theorem imageKept_setLowestEvent (cls : Nat) : s.ImageKept (s.setLowestEvent cls) := by
  unfold setLowestEvent
  split
  · exact s.imageKept_reply _ _
  · exact s.imageKept_priorityEvent _ _

theorem imageKept_setLock (k : Nat) (r : LockRecord) : s.ImageKept (s.setLock k r) := .of_image rfl

theorem imageKept_lockArmEvent (index code : Nat) (gate : Option Nat) (preset : Nat) :
    s.ImageKept (s.lockArmEvent index code gate preset) := by
  unfold lockArmEvent
  split
  · exact s.imageKept_reply _ _
  · split
    · exact s.imageKept_reply _ _
    · split
      · exact s.imageKept_reply _ _
      · split
        · unfold arm
          dsimp only []
          split
          · split
            · exact (s.imageKept_setLock _ _).trans (imageKept_reply _ _ _)
            · exact s.imageKept_reply _ _
          · exact (s.imageKept_setLock _ _).trans (imageKept_reply _ _ _)
          · exact (s.imageKept_setLock _ _).trans (imageKept_reply _ _ _)
        · exact s.imageKept_reply _ _

theorem imageKept_lockCancelEvent (index : Nat) : s.ImageKept (s.lockCancelEvent index) := by
  unfold lockCancelEvent
  split
  · exact s.imageKept_reply _ _
  · split
    · exact s.imageKept_reply _ _
    · unfold cancelLock
      dsimp only []
      split
      · exact s.imageKept_reply _ _
      · exact (s.imageKept_setLock _ _).trans (imageKept_reply _ _ _)

theorem imageKept_lockReadEvent (first count : Nat) : s.ImageKept (s.lockReadEvent first count) := by
  unfold lockReadEvent
  split
  · exact s.imageKept_reply _ _
  · split
    · exact s.imageKept_reply _ _
    · exact .trans (t := s.collectLocks first count) (.of_image rfl) (imageKept_reply _ _ _)

theorem imageKept_framesEvent (first count : Nat) : s.ImageKept (s.framesEvent first count) := by
  unfold framesEvent
  split <;> exact s.imageKept_reply _ _

theorem imageKept_stopEvent : s.ImageKept s.stopEvent := by
  unfold stopEvent
  split
  · exact (s.imageKept_stopRequest _ _).trans (imageKept_reply _ _ _)
  · exact s.imageKept_reply _ _

theorem imageKept_configure (c : LaneConfig) : s.ImageKept (s.configure c) := by
  unfold configure
  extract_lets s1 s2
  have hset : s.ImageKept s2 := by
    dsimp only [s2, s1]
    split <;> exact .of_image rfl
  clear_value s2
  split
  · exact hset.trans (imageKept_selectIfWaiting _)
  · exact hset

theorem imageKept_configLaneEvent (v : LaneValues) : s.ImageKept (s.configLaneEvent v) := by
  unfold configLaneEvent
  split
  · exact s.imageKept_reply _ _
  · split
    · exact s.imageKept_reply _ _
    · exact (s.imageKept_configure _).trans (imageKept_reply _ _ _)

theorem imageKept_readEvent (address count : Nat) : s.ImageKept (s.readEvent address count) := by
  unfold readEvent
  split
  · exact s.imageKept_reply _ _
  · split
    · exact s.imageKept_reply _ _
    · exact s.imageKept_run _

theorem imageKept_writeEvent (address count : Nat) (words : List Word) :
    s.ImageKept (s.writeEvent address count words) := by
  unfold writeEvent
  split
  · exact s.imageKept_reply _ _
  · split
    · exact s.imageKept_reply _ _
    · exact s.imageKept_run _

theorem imageKept_readOne (next left : Nat) (delivered : List Word) : s.ImageKept (s.readOne next left delivered) := by
  unfold readOne
  split
  · split
    · exact ((imageKept_of_readWord ‹_›).trans (imageKept_run _ _)).trans (imageKept_reply _ _ _)
    · exact (imageKept_of_readWord ‹_›).trans (imageKept_run _ _)
  · exact ((imageKept_of_readWord ‹_›).trans (imageKept_run _ _)).trans (imageKept_reply _ _ _)

theorem imageKept_linkDown (port : LinkPort) : s.ImageKept (s.linkDown port) := by
  unfold linkDown
  dsimp only []
  split
  · exact ((s.imageKept_setLink _ _).trans (imageKept_raise _ _)).trans (imageKept_endServe _ _ _)
  · exact (s.imageKept_setLink _ _).trans (imageKept_raise _ _)

theorem imageKept_heardLink (port : LinkPort) : s.ImageKept (s.heardLink port) := by
  unfold heardLink
  dsimp only []
  split
  · exact s.imageKept_setLink _ _
  · exact (s.imageKept_setLink _ _).trans (imageKept_raise _ _)

end State

/-! ### Requests on the image -/

theorem State.SoundImage.configRegionEvent {s : State} (h : s.SoundImage) (id first count code seed : Nat) :
    (s.configRegionEvent id first count code seed).SoundImage := by
  unfold State.configRegionEvent
  split
  · exact (s.imageKept_reply _ _).sound h
  · split
    · exact (s.imageKept_reply _ _).sound h
    · rename_i cls _
      split
      · rename_i hfits
        simp only [State.regionFits, Bool.and_eq_true, decide_eq_true_eq, Bool.not_eq_true'] at hfits
        obtain ⟨⟨⟨hid, hcount⟩, -, hin⟩, hover⟩ := hfits
        obtain ⟨hclear, hnone, hothers⟩ := h.clearRegion (id := id) (by omega)
        refine (State.imageKept_reply _ _ _).sound
          (hclear.defineRegion cls (seedOf seed) (by omega) hnone hcount hin fun j q hq => ?_)
        have hj : j ≠ id := by
          rintro rfl
          rw [hnone] at hq; cases hq
        rw [hothers j hj] at hq
        have hapart := List.any_eq_false.mp hover j (List.mem_range.mpr (State.region_lt hq))
        rw [hq] at hapart
        simp only [hj, Bool.and_eq_true, decide_eq_true_eq, not_and, ne_eq, not_false_eq_true] at hapart
        by_contra hmeet
        exact hapart ⟨trivial, by omega⟩ (by omega)
      · exact (s.imageKept_reply _ _).sound h

theorem State.SoundImage.configRegionClearEvent {s : State} (h : s.SoundImage) (id : Nat) :
    (s.configRegionClearEvent id).SoundImage := by
  unfold State.configRegionClearEvent
  split
  · exact (s.imageKept_reply _ _).sound h
  · split
    · exact (s.imageKept_reply _ _).sound h
    · exact (State.imageKept_reply _ _ _).sound (h.clearRegion (by omega)).1

theorem State.SoundImage.openTaken {s : State} (h : s.SoundImage) (kind : OpenKind) : (s.openTaken kind).SoundImage := by
  unfold State.openTaken
  dsimp only []
  split
  · exact (s.imageKept_reply _ _).sound h
  · have hopen := h.setOpening (o := some ⟨kind, .mapping, s.pagesToMap.length⟩) fun _ _ _ hc => by cases hc
    exact State.ImageKept.sound (.of_image rfl) hopen

theorem State.SoundImage.openColdEvent {s : State} (h : s.SoundImage) : s.openColdEvent.SoundImage := by
  unfold State.openColdEvent
  split
  · exact h.openTaken _
  · exact (s.imageKept_reply _ _).sound h

theorem State.SoundImage.openJoinEvent {s : State} (h : s.SoundImage) : s.openJoinEvent.SoundImage := by
  unfold State.openJoinEvent
  split
  · exact h.openTaken _
  · exact (s.imageKept_reply _ _).sound h

/-- The mapping of an OPEN and its settings; the zero-fill begins at offset 0 of each page (R30, R31, R118). -/
theorem State.SoundImage.mappingEnded {s : State} (h : s.SoundImage) (o : Opening) : (s.mappingEnded o).SoundImage := by
  have hmapped := h.mapAll o.kind
  unfold State.mappingEnded
  dsimp only []
  split
  · exact hmapped.warmRestart
  · have hset := (State.imageKept_openSettings _ o.kind fun p => (s.page p).mapped).sound hmapped
    generalize (s.mapAll o.kind).openSettings o.kind (fun p => (s.page p).mapped) = s1 at hset ⊢
    split
    · unfold State.joinOpened
      have hclosed := hset.setOpening (o := none) fun _ _ _ hc => by cases hc
      exact (State.imageKept_reply _ _ _).sound (State.ImageKept.sound (.of_image rfl) hclosed)
    · refine hset.setOpening fun kind left n ho e he => ?_
      cases ho
      obtain ⟨p, -, rfl⟩ := List.mem_map.mp he
      exact Nat.zero_lt_succ 255

/-- A word of the zero-fill of OPEN COLD: each page left stands at one of its words (R17, R118). -/
theorem State.SoundImage.zeroFillWord {s : State} (h : s.SoundImage) {kind : OpenKind} {left : List (Nat × Nat)} {n : Nat}
    (ho : s.opening = some ⟨kind, .filling left, n⟩) {page offset : Nat} (he : (page, offset) ∈ left) :
    State.SoundImage { s.writeWord page offset 0 with opening := some ⟨kind, .filling (fillOn page left), n⟩ } := by
  refine (h.writeWord page 0 (h.2.2.2.2.2 kind left n ho _ he)).setOpening fun kind' left' n' ho' e he' => ?_
  cases ho'
  simpa using (List.mem_filter.mp he').2

theorem State.SoundImage.coldOpened {s : State} (h : s.SoundImage) (n : Nat) : (s.coldOpened n).SoundImage := by
  have hclosed := h.setOpening (o := none) fun _ _ _ hc => by cases hc
  exact (State.imageKept_reply _ _ _).sound (State.ImageKept.sound (.of_image rfl) hclosed)

theorem State.SoundImage.hostWrite {s : State} (h : s.SoundImage) (page : Nat) {offset : Nat} (w : Word)
    (hoff : offset < 256) : (s.hostWrite page offset w).SoundImage := by
  unfold State.hostWrite
  extract_lets s1 s2
  have h1 : s1.SoundImage := by
    dsimp only [s1]
    split
    · exact (s.imageKept_capture page).sound h
    · exact h
  have h2 : s2.SoundImage := State.ImageKept.sound (.of_image rfl) (h1.writeWord page w hoff)
  clear_value s2
  split
  · exact State.ImageKept.sound (.of_image rfl) h2
  · exact h2

theorem State.SoundImage.writeOne {s : State} (h : s.SoundImage) (next done : Nat) (w : Word) (rest : List Word) :
    (s.writeOne next done w rest).SoundImage := by
  unfold State.writeOne
  split
  · exact ((s.imageKept_run _).trans (State.imageKept_reply _ _ _)).sound h
  · have hword := h.hostWrite (next / 256) w (Nat.mod_lt next (by decide))
    dsimp only []
    split
    · exact ((State.imageKept_run _ _).trans (State.imageKept_reply _ _ _)).sound hword
    · exact (State.imageKept_run _ _).sound hword

theorem State.SoundImage.fillPage {s : State} (h : s.SoundImage) (page : Nat) (value : Word) :
    (s.fillPage page value).SoundImage := by
  have hfilled := h.writeRun page (List.replicate 256 value) (offset := 0)
    (Nat.le_of_eq (by rw [Nat.zero_add, List.length_replicate]))
  unfold State.fillPage
  generalize s.writeRun page 0 (List.replicate 256 value) = s1 at hfilled ⊢
  have hcleared : (s1.clearPoisonPage page).SoundImage := State.ImageKept.sound (.of_image rfl) hfilled
  have hreleased := (State.imageKept_setPage _ (page := page) (PageEntry.unmarked_releasePoisoned _)).sound hcleared
  dsimp only []
  split
  · exact (State.imageKept_restartPassOn _ _).sound hreleased
  · exact hreleased

theorem State.SoundImage.fillEvent {s : State} (h : s.SoundImage) (page : Nat) (value : Word) :
    (s.fillEvent page value).SoundImage := by
  unfold State.fillEvent
  split
  · exact (s.imageKept_reply _ _).sound h
  · split
    · exact (s.imageKept_reply _ _).sound h
    · split
      · exact (s.imageKept_reply _ _).sound h
      · exact (State.imageKept_reply _ _ _).sound (h.fillPage page value)

theorem State.laneRegion_some {s : State} {id : Nat} {r : Region} (h : s.laneRegion id = some r) : s.region id = some r := by
  unfold State.laneRegion at h
  split at h
  · split at h
    · cases h; assumption
    · cases h
  · cases h

theorem State.SoundImage.adoptEvent {s : State} (h : s.SoundImage) (id : Nat) : (s.adoptEvent id).SoundImage := by
  have hreply : (s.adoptReply id).SoundImage := by
    unfold State.adoptReply
    split
    · exact (s.imageKept_reply _ _).sound h
    · rename_i r hr
      split
      · exact (State.imageKept_reply _ _ _).sound (h.adoptRegion (State.laneRegion_some hr))
      · exact (s.imageKept_reply _ _).sound h
  unfold State.adoptEvent
  dsimp only []
  split
  · exact ((State.imageKept_port _ _).sound hreply).warmRestart
  · exact hreply

/-! ### Cycle closes and arriving frames -/

theorem State.SoundImage.readGate {s : State} (h : s.SoundImage) (a : Advance) (gate : Nat) (rest : List Nat) :
    (s.readGate a gate rest).SoundImage := by
  unfold State.readGate
  split
  · exact ((State.imageKept_of_readWord ‹_›).trans (State.imageKept_advance _ _)).sound h
  · have hended := ((State.imageKept_of_readWord ‹_›).trans (State.imageKept_advance _ none)).sound h
    unfold State.abandonClose
    split
    · exact hended.warmRestart
    · exact (State.imageKept_reply _ _ _).sound hended

theorem State.SoundImage.endAdvance {s : State} (h : s.SoundImage) (a : Advance) : (s.endAdvance a).SoundImage := by
  have hstepped := ((s.imageKept_stepLocks a.values).trans (State.imageKept_advance _ none)).sound h
  unfold State.endAdvance
  dsimp only []
  generalize ({ s.stepLocks a.values with advance := none } : State) = s1 at hstepped ⊢
  split
  · exact hstepped.warmRestart
  · split
    · exact ((State.imageKept_completeClose _ _).trans (State.imageKept_reply _ _ _)).sound hstepped
    · exact (State.imageKept_reply _ _ _).sound hstepped

theorem State.SoundImage.replyEnded {s : State} (h : s.SoundImage) : s.replyEnded.SoundImage := by
  have hquiet := (s.imageKept_port { s.port with line := none }).sound h
  unfold State.replyEnded
  extract_lets isRestart port s1 s2
  have h2 : s2.SoundImage := by
    dsimp only [s2]
    split
    · exact hquiet.warmRestart
    · exact (State.imageKept_port _ _).sound hquiet
  exact (State.imageKept_port _ _).sound h2

/-- A PAGE frame that passes its checks writes inside its page (R149). -/
theorem State.SoundImage.pageReceived {s : State} (h : s.SoundImage) (port : LinkPort) (page offset : Nat)
    (words : List Word) : (s.pageReceived port page offset words).SoundImage := by
  have hstale : ∀ t : State, t.SoundImage → (if offset = 0 then t.putControl port (.joinAbort .stale) else t).SoundImage := by
    intro t ht
    split
    · exact (State.imageKept_putControl _ _ _).sound ht
    · exact ht
  unfold State.pageReceived
  split
  · split
    · rename_i j _ _
      have hsilence := (s.imageKept_restartSilence j).sound h
      dsimp only []
      split
      · rename_i hlands
        simp only [State.pageLands, Bool.and_eq_true, decide_eq_true_eq] at hlands
        obtain ⟨-, -, -, hlen⟩ := hlands
        exact (State.imageKept_join _ _).sound (hsilence.writeRun page words hlen)
      · exact (State.imageKept_failAttempt _ _ _).sound hsilence
    · exact hstale s h
  · exact hstale s h

/-- A good link frame handed on by kind (R162). -/
theorem State.SoundImage.handFrame {s : State} (h : s.SoundImage) (port : LinkPort) (f : Received) :
    (s.handFrame port f).SoundImage := by
  cases f with
  | idleFill => exact h
  | digest sender cycle confirmed list => exact (s.imageKept_digestReceived _ _ _ _ _).sound h
  | joinAsk sender => exact (s.imageKept_joinAsked _ _).sound h
  | joinOffer pages => exact (s.imageKept_offerReceived _ _).sound h
  | joinDecline reason => exact (s.imageKept_declineReceived _ _).sound h
  | joinAbort reason => exact (s.imageKept_abortReceived _ _).sound h
  | page page offset words => exact h.pageReceived port page offset words
  | lockImage timers => exact (s.imageKept_imageReceived _ _).sound h
  | syncMark cycle list => exact (s.imageKept_syncReceived _ _ _).sound h

theorem State.SoundImage.receiveWord {s : State} (h : s.SoundImage) (port : LinkPort) (w : Word) :
    (State.receiveWord port s w).SoundImage := by
  unfold State.receiveWord
  split
  · split
    · exact (s.imageKept_setLink _ _).sound h
    · exact h
  · dsimp only []
    split
    · have hcleared := (s.imageKept_setLink port { s.link port with rx := [] }).sound h
      unfold State.checkFrame
      split
      · exact ((State.imageKept_heardLink _ _).sound hcleared).handFrame port _
      · exact (State.imageKept_checkFail _ _).sound hcleared
    · exact (s.imageKept_setLink _ _).sound h

/-! ### Power -/

/-- Right after the application of power nothing is defined and nothing mapped (R18). -/
theorem State.poweredOn_sound (s : State) : s.poweredOn.SoundImage := by
  have hregion : ∀ id, s.poweredOn.region id = none := fun id => tableGet_replicate 16 id none
  have hpage : ∀ p, s.poweredOn.page p = .unmapped := fun p => tableGet_replicate 120 p _
  have hframe : ∀ k, s.poweredOn.frame k = FrameRecord.fresh := fun k => tableGet_replicate 128 k _
  have hstill : ∀ q, ¬ (s.poweredOn.page q).IsMoving := by
    rintro q ⟨f, g, c, p, r, hq⟩
    rw [hpage] at hq; cases hq
  refine ⟨Memory.wf_nil, ⟨fun id r hr => ?_, fun i j r q hr => ?_, fun p hp => ?_⟩,
    ⟨fun p k hk => ?_, fun k p hk => ?_, fun k hk => ?_, State.engineLaw_of_still rfl hstill⟩,
    fun p f g c pm rm hp => ?_, fun id r hr => ?_, fun _ _ _ ho => by cases ho⟩
  · rw [hregion] at hr; cases hr
  · rw [hregion] at hr; cases hr
  · rw [hpage] at hp; cases hp
  · rw [hpage] at hk; cases hk
  · rw [hframe] at hk; cases hk
  · rw [hframe] at hk; cases hk
  · rw [hpage] at hp; cases hp
  · rw [hregion] at hr; cases hr

end Sys2Proof.Machine
end

section
/-! Every command keeps the laws of the image, and so every step does (R21, R27, R36, R42). -/

namespace Sys2Proof.Machine

/-- A command that goes on goes on with a sound image. -/
def SoundResult (r : Result) : Prop := ∀ t, r = .next t → t.SoundImage

theorem soundResult_next {t : State} (h : t.SoundImage) : SoundResult (.next t) := fun u hu => by
  cases hu; exact h

/-- A command that goes on with a state that keeps the image. -/
theorem State.SoundImage.next {s t : State} (h : s.SoundImage) (hk : s.ImageKept t) : SoundResult (.next t) :=
  soundResult_next (hk.sound h)

section Commands

variable {s : State} (h : s.SoundImage)
include h

theorem execRestartInput_sound : SoundResult (execRestartInput s) := by
  unfold execRestartInput
  split
  · exact soundResult_next h
  · split
    · exact h.next (.of_image rfl)
    · exact soundResult_next h.warmRestart

theorem execDisturbance_sound (hlaw : s.LaneLaw) (frame offset : Nat) {f : Cell → Cell}
    (hf : ∀ c, (f c).written = c.written) :
    SoundResult (if isStoreWord frame offset then .next (s.disturb frame offset f)
      else .fault (.noStoreWord frame offset)) := by
  split
  · exact soundResult_next (h.disturb hlaw frame offset hf)
  · intro t ht; cases ht

theorem execHostFrameCutOff_sound : SoundResult (execHostFrameCutOff s) := by
  unfold execHostFrameCutOff
  split
  · exact soundResult_next h
  · exact h.next ((s.imageKept_setHostRx _).trans (State.imageKept_badFrame _))

theorem execReplyEnd_sound : SoundResult (execReplyEnd s) := by
  unfold execReplyEnd
  split
  · exact soundResult_next h
  · split
    · exact soundResult_next h.replyEnded
    · exact h.next (s.imageKept_port _)
    · exact h.next (s.imageKept_port _)

theorem execOpenMappingEnd_sound : SoundResult (execOpenMappingEnd s) := by
  unfold execOpenMappingEnd
  split
  · exact soundResult_next (h.mappingEnded _)
  · exact soundResult_next h
  · exact soundResult_next h

theorem execOpenColdZeroFillWrite_sound (page : Nat) : SoundResult (execOpenColdZeroFillWrite page s) := by
  unfold execOpenColdZeroFillWrite
  split
  · rename_i kind left n ho
    split
    · rename_i p offset hfind
      have hp : p = page := by simpa using List.find?_some hfind
      exact soundResult_next (h.zeroFillWord ho (hp ▸ List.mem_of_find?_eq_some hfind))
    · exact soundResult_next h
  · exact soundResult_next h
  · exact soundResult_next h

theorem execOpenColdCompletion_sound : SoundResult (execOpenColdCompletion s) := by
  unfold execOpenColdCompletion
  split
  · exact soundResult_next (h.coldOpened _)
  · exact soundResult_next h
  · exact soundResult_next h
  · exact soundResult_next h

theorem execHostReadWord_sound : SoundResult (execHostReadWord s) := by
  unfold execHostReadWord
  split
  · exact h.next (s.imageKept_readOne _ _ _)
  · exact soundResult_next h
  · exact soundResult_next h

theorem execHostWriteWord_sound : SoundResult (execHostWriteWord s) := by
  unfold execHostWriteWord
  split
  · exact soundResult_next (h.writeOne _ _ _ _)
  · exact soundResult_next h
  · exact soundResult_next h
  · exact soundResult_next h

theorem execGateRead_sound : SoundResult (execGateRead s) := by
  unfold execGateRead
  split
  · exact soundResult_next (h.readGate _ _ _)
  · exact soundResult_next h
  · exact soundResult_next h

theorem execLockAdvance_sound : SoundResult (execLockAdvance s) := by
  unfold execLockAdvance
  split
  · exact soundResult_next (h.endAdvance _)
  · exact soundResult_next h
  · exact soundResult_next h

theorem execMoveTake_sound : SoundResult (execMoveTake s) := by
  unfold execMoveTake
  split
  · split
    · rename_i htakes
      simp only [State.takesMove, Bool.and_eq_true, Option.isNone_iff_eq_none] at htakes
      exact soundResult_next (h.takeMove _ _ htakes.1.1)
    · exact soundResult_next h
  · exact soundResult_next h

theorem execMoveStep_sound : SoundResult (execMoveStep s) := by
  unfold execMoveStep
  split
  · split
    · exact soundResult_next (h.stepMove _)
    · exact soundResult_next h
  · exact soundResult_next h

theorem execWindowExpiry_sound : SoundResult (execWindowExpiry s) := by
  unfold execWindowExpiry
  split
  · exact h.next ((s.imageKept_passTo _).trans (State.imageKept_decideVote _))
  · exact soundResult_next h

theorem execDeadlineExpiry_sound : SoundResult (execDeadlineExpiry s) := by
  unfold execDeadlineExpiry
  split
  · exact h.next ((s.imageKept_passTo _).trans (State.imageKept_stopRequest _ _ _))
  · exact soundResult_next h

theorem execHalfPeriodExpiry_sound : SoundResult (execHalfPeriodExpiry s) := by
  unfold execHalfPeriodExpiry
  split
  · exact h.next (.of_image rfl)
  · exact soundResult_next h

theorem execLinkFrameCheck_sound (port : LinkPort) (words : List Word) : SoundResult (execLinkFrameCheck port words s) := by
  unfold execLinkFrameCheck
  split
  · exact soundResult_next h
  · exact soundResult_next (State.SoundImage.foldl (fun _ w ht => ht.receiveWord port w) words h)

theorem execLinkReceiveCutOff_sound (port : LinkPort) : SoundResult (execLinkReceiveCutOff port s) := by
  unfold execLinkReceiveCutOff
  split
  · exact soundResult_next h
  · exact h.next ((s.imageKept_setLink _ _).trans (State.imageKept_checkFail _ _))

theorem execSilenceTimerExpiry_sound : SoundResult (execSilenceTimerExpiry s) := by
  unfold execSilenceTimerExpiry
  split
  · exact h.next ((s.imageKept_passTo _).trans (State.imageKept_failAttempt _ _ _))
  · exact soundResult_next h

theorem execTransmitEnd_sound (port : LinkPort) : SoundResult (execTransmitEnd port s) := by
  unfold execTransmitEnd
  split
  · exact h.next (s.imageKept_transmitEnded _)
  · exact soundResult_next h

theorem execIdleFill_sound (port : LinkPort) : SoundResult (execIdleFill port s) := by
  unfold execIdleFill
  split
  · exact h.next ((s.imageKept_passTo _).trans (State.imageKept_setLink _ _ _))
  · exact soundResult_next h

theorem execLinkTimeout_sound (port : LinkPort) : SoundResult (execLinkTimeout port s) := by
  unfold execLinkTimeout
  split
  · exact h.next ((s.imageKept_passTo _).trans (State.imageKept_linkDown _ _))
  · exact soundResult_next h

/-- Every command goes on with a sound image, if it goes on. -/
theorem exec_sound (hlaw : s.LaneLaw) (i : Instr) : SoundResult (exec i s) := by
  have kept : ∀ (c : Instr) {own : State → State}, (∀ t : State, t.ImageKept (own t)) → SoundResult (.next (s.request c own)) :=
    fun c _ hown => soundResult_next (h.requestKept c hown)
  have sound : ∀ (c : Instr) {own : State → State}, (∀ t : State, t.SoundImage → (own t).SoundImage) →
      SoundResult (.next (s.request c own)) := fun c _ hown => soundResult_next (h.request c hown)
  cases i with
  | powerOn => exact soundResult_next s.poweredOn_sound
  | startUpSweepEnd => exact soundResult_next (h.sweepEnded hlaw)
  | restartInput => exact execRestartInput_sound h
  | oneBitDisturbance frame offset => exact execDisturbance_sound h hlaw frame offset Cell.disturb_written
  | silentDisturbance frame offset value => exact execDisturbance_sound h hlaw frame offset (Cell.silent_written value)
  | hostFrameCheck bytes => exact h.next (State.imageKept_foldl State.imageKept_receiveByte bytes s)
  | hostFrameCutOff => exact execHostFrameCutOff_sound h
  | replyEnd => exact execReplyEnd_sound h
  | status tag => exact kept _ fun t => t.imageKept_reply _ _
  | configLane tag values => exact kept _ fun t => t.imageKept_configLaneEvent values
  | configRegion tag id first count code seed => exact sound _ fun t ht => ht.configRegionEvent id first count code seed
  | configRegionClear tag id => exact sound _ fun t ht => ht.configRegionClearEvent id
  | openCold tag => exact sound _ fun t ht => ht.openColdEvent
  | openJoin tag => exact sound _ fun t ht => ht.openJoinEvent
  | openMappingEnd => exact execOpenMappingEnd_sound h
  | openColdZeroFillWrite page => exact execOpenColdZeroFillWrite_sound h page
  | openColdCompletion => exact execOpenColdCompletion_sound h
  | stop tag => exact kept _ State.imageKept_stopEvent
  | read tag address count => exact kept _ fun t => t.imageKept_readEvent address count
  | hostReadWord => exact execHostReadWord_sound h
  | write tag address count words => exact kept _ fun t => t.imageKept_writeEvent address count words
  | hostWriteWord => exact execHostWriteWord_sound h
  | fill tag page value => exact sound _ fun t ht => ht.fillEvent page value
  | adopt tag region => exact sound _ fun t ht => ht.adoptEvent region
  | cycleClose tag cycle => exact kept _ fun t => t.imageKept_closeEvent cycle
  | gateRead => exact execGateRead_sound h
  | lockAdvance => exact execLockAdvance_sound h
  | lockArm tag index code gate preset => exact kept _ fun t => t.imageKept_lockArmEvent index code gate preset
  | lockCancel tag index => exact kept _ fun t => t.imageKept_lockCancelEvent index
  | lockRead tag first count => exact kept _ fun t => t.imageKept_lockReadEvent first count
  | take tag => exact kept _ State.imageKept_takeEvent
  | doneClass tag cls => exact kept _ fun t => t.imageKept_doneClassEvent cls
  | doneNoClass tag => exact kept _ State.imageKept_doneNoClassEvent
  | mask tag set => exact kept _ fun t => (t.imageKept_attention _).trans (State.imageKept_reply _ _ _)
  | priorityFixed tag => exact kept _ fun t => t.imageKept_priorityEvent false 7
  | priorityRotating tag => exact kept _ fun t => t.imageKept_priorityEvent true _
  | prioritySetLowest tag cls => exact kept _ fun t => t.imageKept_setLowestEvent cls
  | frames tag first count => exact kept _ fun t => t.imageKept_framesEvent first count
  | poison tag => exact kept _ fun t => t.imageKept_reply _ _
  | restart tag => exact kept _ fun t => t.imageKept_reply _ _
  | patrolStep => exact h.next s.imageKept_patrolStep
  | moveTake => exact execMoveTake_sound h
  | moveStep => exact execMoveStep_sound h
  | windowExpiry => exact execWindowExpiry_sound h
  | deadlineExpiry => exact execDeadlineExpiry_sound h
  | halfPeriodExpiry => exact execHalfPeriodExpiry_sound h
  | linkFrameCheck port words => exact execLinkFrameCheck_sound h port words
  | linkReceiveCutOff port => exact execLinkReceiveCutOff_sound h port
  | silenceTimerExpiry => exact execSilenceTimerExpiry_sound h
  | sendStep => exact h.next s.imageKept_sendStep
  | finalSendStep => exact h.next s.imageKept_finalSendStep
  | lockImageQueued => exact h.next s.imageKept_queueLockImage
  | syncMarkQueued => exact h.next s.imageKept_queueSyncMark
  | transmitEnd port => exact execTransmitEnd_sound h port
  | idleFill port => exact execIdleFill_sound h port
  | linkTimeout port => exact execLinkTimeout_sound h port

end Commands

/-- Settles O59: every command takes a sound image to a sound image, so a step with a command waiting does; an idle step
touches nothing of it. The lane's laws serve during the sweep alone, when no region is defined. -/
theorem imageLawKept : Obligations.ImageLawKept := by
  intro s t hwf hlaw himage hstep
  have hsound : s.SoundImage := ⟨hwf, himage⟩
  unfold step at hstep
  split at hstep
  · rename_i c rest _
    have hpopped : State.SoundImage { s with pending := rest } := hsound
    exact (exec_sound hpopped hlaw c t hstep).2
  · cases hstep
    exact himage

end Sys2Proof.Machine
end

section
/-! OPEN at its block (R30, R117). -/

namespace Sys2Proof.Machine

/-- A request in hand answered by an OPEN that its mode check has let through: NO-FRAMES, or the mapping begins (R30, R117). -/
theorem State.openTaken_inHand (s : State) (kind : OpenKind) (tag : Nat) :
    (s.inHand 4 tag).openTaken kind =
      if s.countFrames .free < s.pagesToMap.length then
        s.answered 4 tag .noFrames (field1 s.pagesToMap.length ++ field1 (s.countFrames .free))
      else
        { s with
          port := s.port.inHand 4 tag
          lane := { s.lane with stopCause := none }
          opening := some ⟨kind, .mapping, s.pagesToMap.length⟩ } := by
  have hpages : (s.inHand 4 tag).pagesToMap = s.pagesToMap := rfl
  have hfree : (s.inHand 4 tag).countFrames .free = s.countFrames .free := rfl
  unfold State.openTaken
  simp only [hpages, hfree, State.inHand_reply]
  rfl

/-- OPEN COLD that is given: the mode check, then the count of FREE frames (R117). -/
theorem execOpenCold_given {s : State} {tag : Nat} (h : s.given 4 tag (.openCold tag)) :
    exec (.openCold tag) s = .next (if s.lane.mode = some .offline then (s.inHand 4 tag).openTaken .cold
      else s.answered 4 tag .wrongMode []) := by
  show Host.Outcome.next (s.request (.openCold tag) State.openColdEvent) = _
  rw [State.request_given (payload := field1 1) State.openColdEvent rfl (by decide) (by decide) rfl h]
  have hmode : (s.inHand 4 tag).isOffline = true ↔ s.lane.mode = some .offline := beq_iff_eq
  unfold State.openColdEvent
  simp only [hmode, State.inHand_reply]

/-- OPEN JOIN that is given: the mode check, then the count of FREE frames (R117). -/
theorem execOpenJoin_given {s : State} {tag : Nat} (h : s.given 4 tag (.openJoin tag)) :
    exec (.openJoin tag) s = .next (if s.lane.mode = some .offline ∨ s.lane.mode = some .stopped then
      (s.inHand 4 tag).openTaken .join else s.answered 4 tag .wrongMode []) := by
  show Host.Outcome.next (s.request (.openJoin tag) State.openJoinEvent) = _
  rw [State.request_given (payload := field1 2) State.openJoinEvent rfl (by decide) (by decide) rfl h]
  have hmode : ((s.inHand 4 tag).isOffline || (s.inHand 4 tag).lane.mode == some .stopped) = true ↔
      s.lane.mode = some .offline ∨ s.lane.mode = some .stopped := by
    simp [State.isOffline, State.inHand]
  unfold State.openJoinEvent
  simp only [hmode, State.inHand_reply]

/-- Settles O20, by the two checks of an OPEN in their order: its mode, then the FREE frames. -/
theorem openTakenOrRefused : Obligations.OpenTakenOrRefused := by
  intro s tag kind
  cases kind with
  | cold =>
    dsimp only []
    intro hgiven
    rw [execOpenCold_given hgiven, State.openTaken_inHand]
    refine ⟨fun hmode => by rw [if_neg hmode], fun hmode hfew => by rw [if_pos hmode, if_pos hfew], fun hmode henough => ?_⟩
    rw [if_pos hmode, if_neg (Nat.not_lt.mpr henough)]
  | join =>
    dsimp only []
    intro hgiven
    rw [execOpenJoin_given hgiven, State.openTaken_inHand]
    refine ⟨fun hmode => by rw [if_neg hmode], fun hmode hfew => by rw [if_pos hmode, if_pos hfew], fun hmode henough => ?_⟩
    rw [if_pos hmode, if_neg (Nat.not_lt.mpr henough)]

end Sys2Proof.Machine
end

section
/-! The correcting read, by the check state of its word (R7 to R10, R14, R32). -/

namespace Sys2Proof.Machine

/-- A read by page and offset is made at the frame of its word (R20, R36). -/
theorem State.readWord_of_frameAt {s : State} {page offset k : Nat} (src : StoreSource)
    (h : (s.page page).frameAt offset = some k) : s.readWord page offset src = s.readCell k page offset src := by
  unfold State.readWord
  rw [h]

/-- The correcting read of a CLEAN word does nothing (R7). -/
theorem State.readCell_clean {s : State} {frame offset : Nat} {v : Word} (page : Nat) (src : StoreSource)
    (h : (s.cell frame offset).content = .clean v) : s.readCell frame page offset src = (s, some v) := by
  unfold State.readCell
  simp only [h]

/-- The state in which a SINGLE word is scrubbed and counted against its frame (R7). -/
def State.scrubbed (s : State) (frame offset : Nat) (v : Word) : State :=
  (s.setCell frame offset ⟨(s.cell frame offset).written, .clean v⟩).setFrame frame
    { s.frame frame with count := bump 255 (s.frame frame).count }

/-- The correcting read of a SINGLE word scrubs, counts and reports (R7, R32). -/
theorem State.readCell_single {s : State} {frame offset : Nat} {v : Word} (page : Nat) (src : StoreSource)
    (h : (s.cell frame offset).content = .single v) :
    s.readCell frame page offset src =
      ((s.scrubbed frame offset v).reportCorrection frame (bump 255 (s.frame frame).count), some v) := by
  unfold State.readCell
  simp only [h]
  rfl

/-- The correcting read of a DOUBLE word delivers nothing (R8). -/
theorem State.readCell_double {s : State} {frame offset : Nat} (page : Nat) (src : StoreSource)
    (h : (s.cell frame offset).content = .double) :
    s.readCell frame page offset src = (s.uncorrectable page offset src, none) := by
  unfold State.readCell
  simp only [h]

/-- A frame backs an ACTIVE page (R32). -/
theorem State.backsActive_iff {s : State} {frame : Nat} :
    s.backsActive frame = true ↔ ∃ p, (s.frame frame).page = some p ∧ s.page p = .active frame := by
  unfold State.backsActive
  split <;> simp_all

/-- A report queues its frame under the conditions of R32. -/
theorem State.reportCorrection_moveQueue (s : State) (frame count : Nat) :
    (s.reportCorrection frame count).moveQueue =
      if s.config.retire ≤ count ∧ (∃ p, (s.frame frame).page = some p ∧ s.page p = .active frame) ∧
        frame ∉ s.moveQueue ∧ s.moveQueue.length < 8 then s.moveQueue ++ [frame] else s.moveQueue := by
  have hcond : (s.config.retire ≤ count && s.backsActive frame && !s.moveQueue.contains frame &&
        decide (s.moveQueue.length < Config.moveQueueCapacity)) = true ↔
      s.config.retire ≤ count ∧ (∃ p, (s.frame frame).page = some p ∧ s.page p = .active frame) ∧
        frame ∉ s.moveQueue ∧ s.moveQueue.length < 8 := by
    simp only [Bool.and_eq_true, decide_eq_true_eq, State.backsActive_iff, Bool.not_eq_true', List.contains_eq_mem,
      decide_eq_false_iff_not, and_assoc]
    exact Iff.rfl
  unfold State.reportCorrection
  simp only [hcond]
  split <;> rfl

/-- A DOUBLE word of a VITAL region stops the lane (R8, R9). -/
theorem State.uncorrectable_vital {s : State} {page id : Nat} {r : Region} (offset : Nat) (src : StoreSource)
    (hof : s.regionOf page = some (id, r)) (hr : r.cls = .vital) :
    s.uncorrectable page offset src =
      (s.raise (.store (some (page * 256 + offset)) id r.cls src)).stopRequest .store id := by
  unfold State.uncorrectable
  rw [hof]
  dsimp only []
  rw [hr]

/-- A DOUBLE word of a LANE region goes to the poison list (R8, R10). -/
theorem State.uncorrectable_lane {s : State} {page id : Nat} {r : Region} (offset : Nat) (src : StoreSource)
    (hof : s.regionOf page = some (id, r)) (hr : r.cls = .lane) :
    s.uncorrectable page offset src =
      (s.raise (.store (some (page * 256 + offset)) id r.cls src)).poisonWord page offset src := by
  unfold State.uncorrectable
  rw [hof]
  dsimp only []
  rw [hr]

/-- A word in the poison list leaves it as it is (R12). -/
theorem State.poisonWord_listed {s : State} {page offset : Nat} (src : StoreSource)
    (h : ∃ e ∈ s.poison, e.address = page * 256 + offset) : s.poisonWord page offset src = s := by
  unfold State.poisonWord
  exact if_pos (by simpa using h)

/-- A word not in the poison list enters it if it has room; else its page is marked POISONED (R10, R14). -/
theorem State.poisonWord_unlisted {s : State} {page offset : Nat} (src : StoreSource)
    (h : ∀ e ∈ s.poison, e.address ≠ page * 256 + offset) :
    s.poisonWord page offset src =
      if s.poison.length < 32 then { s with poison := s.poison ++ [⟨page * 256 + offset, src, s.vote.lastClosed⟩] }
      else s.setPage page (s.page page).markPoisoned := by
  unfold State.poisonWord
  exact if_neg (by simpa using h)

/-- What a SINGLE word's correcting read leaves (R7, R32). -/
theorem State.scrubbed_fields (s : State) {frame offset : Nat} (v : Word) (hframe : frame < 128) (hoff : offset < 256)
    (hwf : s.mem.wf) :
    (s.scrubbed frame offset v).cell frame offset = ⟨(s.cell frame offset).written, .clean v⟩ ∧
      (∀ a, a ≠ wordKey frame offset → (s.scrubbed frame offset v).mem.get a = s.mem.get a) ∧
      (s.scrubbed frame offset v).frame frame = { s.frame frame with count := bump 255 (s.frame frame).count } ∧
      ∀ k, k ≠ frame → (s.scrubbed frame offset v).frame k = s.frame k := by
  have hframes := fun k => State.frame_setFrame (s.setCell frame offset ⟨(s.cell frame offset).written, .clean v⟩) k
    { s.frame frame with count := bump 255 (s.frame frame).count } hframe
  refine ⟨?_, fun a ha => ?_, (hframes frame).trans (if_pos rfl), fun k hk => (hframes k).trans (if_neg (Ne.symm hk))⟩
  · exact (s.cell_setCell _ hwf hoff hoff).trans (if_pos ⟨rfl, rfl⟩)
  · exact (Memory.get_set _ _ _ hwf).trans (if_neg ha)

/-- Settles O25: the cursor rule names the frame of a read by page and offset, and the check state of the word gives what the
read does. -/
theorem correctingReadByCheckState : Obligations.CorrectingReadByCheckState := by
  refine ⟨fun s page offset src => ⟨fun f hf => ?_, fun f g c p r hmv => ⟨fun ho => ?_, fun ho => ?_⟩⟩,
    fun s frame page offset src hframe hoff hwf => ⟨fun v hv => s.readCell_clean page src hv, fun v hv => ?single,
      fun id r hdouble hof => ⟨fun hr => ?vital, fun hr => ?lane⟩⟩⟩
  · refine State.readWord_of_frameAt src ?_
    rcases hf with hf | hf | hf <;> rw [hf] <;> rfl
  · exact State.readWord_of_frameAt src (by rw [hmv]; exact congrArg some (if_pos ho))
  · exact State.readWord_of_frameAt src (by rw [hmv]; exact congrArg some (if_neg (Nat.not_lt.mpr ho)))
  case single =>
    obtain ⟨hcell, hmem, hcount, hframes⟩ := s.scrubbed_fields v hframe hoff hwf
    have hqueue := (s.scrubbed frame offset v).reportCorrection_moveQueue frame (bump 255 (s.frame frame).count)
    have heq := (s.scrubbed frame offset v).reportCorrection_eq frame (bump 255 (s.frame frame).count)
    rw [State.readCell_single page src hv]
    generalize (s.scrubbed frame offset v).reportCorrection frame (bump 255 (s.frame frame).count) = t at hqueue heq ⊢
    have htcount : t.frame frame = { s.frame frame with count := bump 255 (s.frame frame).count } := by
      rw [heq]; exact hcount
    refine ⟨t, rfl, by rw [heq]; exact hcell, by rw [heq]; exact hmem, htcount, by rw [heq]; exact hframes, ?_, ?_⟩
    · rw [hqueue, htcount, hcount]
      rfl
    · rw [heq]; rfl
  case vital => rw [State.readCell_double page src hdouble, State.uncorrectable_vital offset src hof hr]
  case lane =>
    refine ⟨_, State.readCell_double page src hdouble, ?_⟩
    rw [State.uncorrectable_lane offset src hof hr]
    refine ⟨fun hin => State.poisonWord_listed src hin, fun hout hroom => ?_, fun hout hfull => ?_⟩
    · exact (State.poisonWord_unlisted (s := s.raise _) src hout).trans (if_pos hroom)
    · exact (State.poisonWord_unlisted (s := s.raise _) src hout).trans (if_neg (Nat.not_lt.mpr hfull))

end Sys2Proof.Machine
end

section
/-! What the digest formula shows and does not show of a change (R42 to R45, R49). -/

namespace Sys2Proof.Machine

open scoped Fin.CommRing

/-! ### The formula as sums -/

/-- The digest formula over one run of words after another (R44). -/
theorem digestFrom_append (seed : Nat) (ws us : List Nat) : ∀ i : Nat,
    digestFrom seed i (ws ++ us) = digestFrom seed i ws + digestFrom seed (i + ws.length) us := by
  induction ws with
  | nil => intro i; exact (zero_add _).symm
  | cons w ws ih =>
    intro i
    rw [List.cons_append, digestFrom, digestFrom, ih, List.length_cons, Nat.add_right_comm, Nat.add_assoc, add_assoc]

/-- The digest formula as the sum of the summands of its words (R44). -/
theorem digestOf_eq_sum (seed : Nat) (ws : List Nat) :
    digestOf seed ws = ∑ i ∈ Finset.range ws.length, digestTerm seed i (ws.getD i 0) := by
  have hws : ws = (List.range ws.length).map fun i => ws.getD i 0 :=
    List.ext_getElem (by simp) fun i h _ => by simp [h]
  conv_lhs => rw [hws]
  unfold digestOf
  rw [digestFrom_map_range]
  simp only [Nat.zero_add]

/-- The summand of a word as a natural number modulo 65537 (R43, R44). -/
theorem digestTerm_eq_cast (seed i w : Nat) :
    digestTerm seed i w = (((w + 1) * ((i + 1) * seed) : ℕ) : Digest) :=
  (Nat.cast_mul (w + 1) ((i + 1) * seed)).symm

/-- The digest formula over natural numbers (R44). -/
theorem digestOf_val (seed : Nat) (ws : List Nat) :
    (digestOf seed ws).val =
      ((List.range ws.length).map fun i => (ws.getD i 0 + 1) * ((i + 1) * seed)).sum % 65537 := by
  simp only [digestOf_eq_sum, digestTerm_eq_cast, ← Nat.cast_sum]
  rfl

/-- The written value of a word, by the frame of its page at its offset (R42). -/
theorem State.writtenAt_toNat (s : State) (page o : Nat) :
    (s.writtenAt page o).toNat = match (s.page page).frameAt o with
      | some frame => (s.cell frame o).written.toNat
      | none => 0 := by
  unfold State.writtenAt
  cases (s.page page).frameAt o <;> rfl

/-- The digest of a region is the digest formula over its written values in the order of region offsets (R42, R44). -/
theorem State.regionDigest_eq_digestOf (s : State) (r : Region) :
    s.regionDigest r = digestOf r.seed ((List.range (r.count * 256)).map fun i =>
      (s.writtenAt (r.first + i / 256) (i % 256)).toNat) := by
  unfold digestOf
  rw [State.regionDigest_eq_sum, digestFrom_map_range]
  simp only [Nat.zero_add]

/-- The zero-image digest is the digest of zeros: that of a region none of whose pages is mapped (R42, R45). -/
theorem zeroImage_eq_digestOf (pages seed : Nat) : zeroImage pages seed = digestOf seed (List.replicate (pages * 256) 0) := by
  let r : Region := ⟨0, pages, .vital, seed, 0, .clean⟩
  have hunmapped : ∀ page, State.reset.page page = .unmapped := fun page => tableGet_replicate 120 page _
  have hzero : ∀ page o, State.reset.writtenAt page o = 0 := fun page o => State.writtenAt_of_unmapped o (hunmapped page)
  calc zeroImage pages seed
      = State.reset.regionDigest r := (State.regionDigest_of_zero (r := r) fun page _ o _ => hzero page o).symm
    _ = digestOf seed ((List.range (pages * 256)).map fun _ => 0) := by
      rw [State.regionDigest_eq_digestOf]
      simp only [hzero]
      rfl
    _ = digestOf seed (List.replicate (pages * 256) 0) := by rw [List.map_const', List.length_range]

/-! ### Changes that the digest shows, and changes that it does not -/

/-- One changed word moves the digest by the change times the weight of the word (R44). -/
theorem digestOf_change (seed : Nat) (before after : List Nat) (v w : Nat) :
    digestOf seed (before ++ w :: after) - digestOf seed (before ++ v :: after) =
      (Fin.ofNat 65537 w - Fin.ofNat 65537 v) * weight seed before.length := by
  have hsucc : ∀ n : Nat, (Fin.ofNat 65537 (n + 1) : Digest) = Fin.ofNat 65537 n + 1 := Nat.cast_succ (R := Digest)
  unfold digestOf
  simp only [digestFrom_append, digestFrom, hsucc, Nat.zero_add]
  rw [add_sub_add_left_eq_sub, add_sub_add_right_eq_sub, ← sub_mul, add_sub_add_right_eq_sub]

/-- The modulus of the digest formula is prime (R44, R49). -/
theorem digestModulus_prime : Nat.Prime 65537 := by norm_num

/-- No product of figures other than 0 is 0, since the modulus is prime (R49). -/
theorem digest_mul_ne_zero {a b : Digest} (ha : a ≠ 0) (hb : b ≠ 0) : a * b ≠ 0 := by
  intro h
  have hdvd : 65537 ∣ a.val * b.val := Nat.dvd_of_mod_eq_zero (congrArg Fin.val h)
  rcases digestModulus_prime.dvd_mul.mp hdvd with hd | hd
  · exact ha (Fin.ext (Nat.eq_zero_of_dvd_of_lt hd a.isLt))
  · exact hb (Fin.ext (Nat.eq_zero_of_dvd_of_lt hd b.isLt))

/-- No word of a region has a weight that is a multiple of the modulus (R43, R49). -/
theorem weight_ne_zero {seed i : Nat} (hpos : 1 ≤ seed) (hmax : seed ≤ 65536) (hi : i < 4096) : weight seed i ≠ 0 := by
  intro h
  have hdvd : 65537 ∣ (i + 1) * seed := Nat.dvd_of_mod_eq_zero (congrArg Fin.val h)
  rcases digestModulus_prime.dvd_mul.mp hdvd with hd | hd
  · exact absurd (Nat.le_of_dvd (by omega) hd) (by omega)
  · exact absurd (Nat.le_of_dvd (by omega) hd) (by omega)

/-- Two values of a word are apart modulo 65537 (R44, R49). -/
theorem digest_sub_ne_zero {v w : Nat} (hv : v < 65536) (hw : w < 65536) (hne : v ≠ w) :
    (Fin.ofNat 65537 w - Fin.ofNat 65537 v : Digest) ≠ 0 := by
  intro h
  have hval : w % 65537 = v % 65537 := congrArg Fin.val (sub_eq_zero.mp h)
  omega

/-- Words of weights 3 and 6: the first raised by 6 and the second lowered by 3 leave the digest (R44, R49). -/
theorem digestOf_collision (rest : List Nat) (v w : Nat) (hw : 3 ≤ w) :
    digestOf 3 ((v + 6) :: (w - 3) :: rest) = digestOf 3 (v :: w :: rest) := by
  obtain ⟨k, rfl⟩ := Nat.exists_eq_add_of_le' hw
  have hpair : digestTerm 3 0 (v + 6) + digestTerm 3 1 k = digestTerm 3 0 v + digestTerm 3 1 (k + 3) := by
    have hsum : (v + 6 + 1) * ((0 + 1) * 3) + (k + 1) * ((1 + 1) * 3) =
        (v + 1) * ((0 + 1) * 3) + (k + 3 + 1) * ((1 + 1) * 3) := by ring
    rw [digestTerm_eq_cast, digestTerm_eq_cast, digestTerm_eq_cast, digestTerm_eq_cast, ← Nat.cast_add, hsum, Nat.cast_add]
  show digestTerm 3 0 (v + 6) + (digestTerm 3 1 k + digestFrom 3 2 rest) =
    digestTerm 3 0 v + (digestTerm 3 1 (k + 3) + digestFrom 3 2 rest)
  rw [← add_assoc, hpair, add_assoc]

/-- Settles O54: the difference of two digests is a product of figures that are not 0, and the modulus is prime. -/
theorem oneWordChangesDigest : Obligations.OneWordChangesDigest := by
  refine ⟨fun seed before after v w hpos hmax hv hw hne hlen heq => ?_, digestOf_change, digestOf_collision,
    zeroImage_eq_digestOf, digestOf_val, fun s r => ?_⟩
  · have hweight : weight seed before.length ≠ 0 := weight_ne_zero hpos hmax (by omega)
    refine digest_mul_ne_zero (digest_sub_ne_zero hv hw hne) hweight ?_
    rw [← digestOf_change seed before after, heq, sub_self]
  · exact (s.regionDigest_eq_digestOf r).trans
      (congrArg (digestOf r.seed) (List.map_congr_left fun i _ => s.writtenAt_toNat _ _))

end Sys2Proof.Machine
end

section
/-! What a warm restart leaves of every block (R19, R39, R41, R128). -/

namespace Sys2Proof.Machine

/-! ### The move that a warm restart abandons -/

theorem State.page_congr {s t : State} (h : t.pages = s.pages) (page : Nat) : t.page page = s.page page := by
  unfold State.page
  rw [h]

theorem State.frame_congr {s t : State} (h : t.frames = s.frames) (k : Nat) : t.frame k = s.frame k := by
  unfold State.frame
  rw [h]

/-- A frame freed is FREE, or RETIRED where it was WORN (R29). -/
theorem State.frame_freeFrame_self (s : State) {k : Nat} (page : Nat) (hk : k < 128) :
    (s.freeFrame k page).frame k = (s.frame k).freed := by
  unfold State.freeFrame FrameRecord.freed
  by_cases hw : (s.frame k).worn
  · simp only [hw, if_true]
    exact (State.frame_setFrame s k _ hk).trans (if_pos rfl)
  · simp only [hw]
    refine (State.frame_setFrame s k _ hk).trans ((if_pos rfl).trans ?_)
    simp

/-- The freeing of a frame leaves every other frame's record (R29). -/
theorem State.frame_freeFrame_ne (s : State) {k j : Nat} (page : Nat) (h : k ≠ j) :
    (s.freeFrame k page).frame j = s.frame j := by
  unfold State.freeFrame
  dsimp only []
  split <;> exact tableGet_tableSet_ne _ _ _ h

/-- A page that is not MOVING has no move to abandon (R39). -/
theorem State.abandonMove_of_not_moving {s : State} {page : Nat} (h : ¬ (s.page page).IsMoving) : s.abandonMove page = s := by
  unfold State.abandonMove
  split
  · exact absurd ⟨_, _, _, _, _, ‹_›⟩ h
  all_goals rfl

/-- A move abandoned frees its new frame and no other (R39). -/
theorem State.abandonMove_frame {s : State} {page f g c : Nat} {p r : Bool} (hmv : s.page page = .moving f g c p r) (k : Nat) :
    (s.abandonMove page).frame k = (s.freeFrame g page).frame k := by
  unfold State.abandonMove
  rw [hmv]
  rfl

/-- A warm restart's part in the map unit changes the pool, the page map, the engine, the move queue and the attention
controller (R39, R41). -/
theorem State.movesDropped_eq (s : State) : s.movesDropped = { s with
    frames := s.movesDropped.frames
    pages := s.movesDropped.pages
    attention := s.movesDropped.attention
    moveQueue := []
    moving := none } := by
  unfold State.movesDropped
  split
  · rw [State.abandonMove_eq]
  · rfl

/-- The pool and the page map with the move in progress, of this page, dropped (R39). -/
theorem State.movesDropped_of_engine {s : State} {page : Nat} (h : s.moving = some page) :
    s.movesDropped.pages = (s.abandonMove page).pages ∧ s.movesDropped.frames = (s.abandonMove page).frames := by
  unfold State.movesDropped
  rw [h]
  exact ⟨rfl, rfl⟩

/-- With no page MOVING under the engine, the pool and the page map stay (R39). -/
theorem State.movesDropped_of_still {s : State} (h : ∀ page, s.moving = some page → ¬ (s.page page).IsMoving) :
    s.movesDropped.pages = s.pages ∧ s.movesDropped.frames = s.frames := by
  cases hm : s.moving with
  | none =>
    unfold State.movesDropped
    rw [hm]
    exact ⟨rfl, rfl⟩
  | some page =>
    have hdropped := State.movesDropped_of_engine hm
    rwa [State.abandonMove_of_not_moving (h page hm)] at hdropped

/-- The pages that the engine does not move keep their entries (R39). -/
theorem State.movesDropped_page_other {s : State} {page : Nat} (h : s.moving ≠ some page) :
    s.movesDropped.page page = s.page page := by
  by_cases hstill : ∀ q, s.moving = some q → ¬ (s.page q).IsMoving
  · exact State.page_congr (State.movesDropped_of_still hstill).1 page
  · push Not at hstill
    obtain ⟨q, hq, f, g, c, p, r, hmv⟩ := hstill
    have hentry := State.page_abandonMove hmv page
    rw [if_neg fun he : q = page => h (he ▸ hq)] at hentry
    exact (State.page_congr (State.movesDropped_of_engine hq).1 page).trans hentry

/-! ### The restart -/

/-- The patrol after a selection (R58, R59). -/
theorem State.selectPass_patrol (s : State) : s.selectPass.patrol =
    if s.config.pace = 0 then ⟨s.patrol.walk, none⟩
    else ((walkOrder s.patrol.walk).find? fun id => s.eligible id).elim ⟨s.patrol.walk, none⟩ fun id =>
      ⟨some id, some ⟨id, 0, 0, false⟩⟩ := by
  unfold State.selectPass
  split
  · rfl
  · split <;> rename_i hfind <;> rw [hfind] <;> rfl

theorem State.warmRestart_port (s : State) : s.warmRestart.port = s.port.restarted := by
  unfold State.warmRestart
  rw [State.selectPass_eq, State.movesDropped_eq]

/-- The pool and the page map after a warm restart are those with the move in progress dropped (R39, R128). -/
theorem State.warmRestart_map (s : State) :
    s.warmRestart.pages = s.movesDropped.pages ∧ s.warmRestart.frames = s.movesDropped.frames := by
  unfold State.warmRestart
  rw [State.selectPass_eq]
  exact ⟨rfl, rfl⟩

/-- The patrol after a warm restart has no walk behind it, and selects (R58, R128). -/
theorem State.warmRestart_patrol (s : State) : s.warmRestart.patrol =
    if s.config.pace = 0 then ⟨none, none⟩
    else ((List.range 16).find? fun id => s.warmRestart.eligible id).elim ⟨none, none⟩ fun id =>
      ⟨some id, some ⟨id, 0, 0, false⟩⟩ := by
  have hconfig : s.movesDropped.config = s.config := by rw [State.movesDropped_eq]
  unfold State.warmRestart
  generalize s.movesDropped = d at hconfig ⊢
  rw [← hconfig, State.selectPass_patrol, State.selectPass_eq]
  rfl

/-- A warm restart leaves every block as its settings say (R19, R39, R41, R128). -/
theorem State.warmRestarted_warmRestart (s : State) : s.WarmRestarted s.warmRestart := by
  obtain ⟨hpages, hframes⟩ := s.warmRestart_map
  have hpage : ∀ q, s.warmRestart.page q = s.movesDropped.page q := State.page_congr hpages
  have hframe : ∀ k, s.warmRestart.frame k = s.movesDropped.frame k := State.frame_congr hframes
  have hpatrol := s.warmRestart_patrol
  have hsettings : s.warmRestart = { s with
      lane := ⟨some .offline, false, s.lane.stopCause, none⟩
      health := ⟨none, false⟩
      vote := ⟨0, .none, none, none, none⟩
      peerU := PeerRecord.cleared
      peerV := PeerRecord.cleared
      locks := Vector.replicate 48 LockRecord.cleared
      advance := none
      serve := none
      join := none
      attention := Attention.cleared
      moveQueue := []
      moving := none
      opening := none
      run := none
      restartDue := false
      linkU := { s.linkU with control := [], bulk := [] }
      linkV := { s.linkV with control := [], bulk := [] }
      port := s.port.restarted
      pages := s.warmRestart.pages
      frames := s.warmRestart.frames
      patrol := s.warmRestart.patrol } := by
    unfold State.warmRestart
    rw [State.selectPass_eq, State.movesDropped_eq]
    rfl
  generalize s.warmRestart = t at *
  refine ⟨?_, ?_, ?_, ?_, ?_, ?_, ?_, ?_, ?_, ?_, ?_, ?_, ?_, ?_, ?_, ?_, ?_, ?_, ?_, ?_, ?_, ?_, ?_, ?_, ?still, ?moving,
    ?others, ?paused, ?selected⟩
  case still =>
    intro hstill
    rw [hpages, hframes]
    exact State.movesDropped_of_still fun page hq ⟨f, g, c, p, r, hmv⟩ => hstill page f g c p r hq hmv
  case moving =>
    intro page f g c p r hq hmv
    obtain ⟨hdropped, hpool⟩ := State.movesDropped_of_engine hq
    have hfreed : ∀ k, t.frame k = (s.freeFrame g page).frame k := fun k =>
      ((hframe k).trans (State.frame_congr hpool k)).trans (State.abandonMove_frame hmv k)
    refine ⟨?_, fun k hk => (hfreed k).trans (s.frame_freeFrame_ne page (Ne.symm hk)),
      fun hg => (hfreed g).trans (s.frame_freeFrame_self page hg)⟩
    have hentry := State.page_abandonMove hmv page
    rw [if_pos rfl] at hentry
    exact ((hpage page).trans (State.page_congr hdropped page)).trans hentry
  case others => exact fun page h => (hpage page).trans (State.movesDropped_page_other h)
  case paused => exact fun hpace => hpatrol.trans (if_pos hpace)
  case selected =>
    intro hpace
    rw [hpatrol, if_neg (Nat.pos_iff_ne_zero.mp hpace)]
    cases (List.range 16).find? fun id => t.eligible id <;> rfl
  all_goals rw [hsettings]

end Sys2Proof.Machine
end

section
/-! ADOPT: what it does to the words of its region, what it counts, and what it leaves of the rest (R50 to R52, R70). -/

namespace Sys2Proof.Machine

/-! ### One word adopted -/

/-- Cell `j` at offset `o` holds the word of the page there, as its frame or as the old frame below a move cursor (R36). -/
abbrev PageEntry.touches (e : PageEntry) (o j : Nat) : Prop := e.frameAt o = some j ∨ e.alsoWritten o = some j

/-- A cell with its written value replaced, where there is one to replace it (R51). -/
def Cell.rewritten (c : Cell) (v : Option Word) : Cell := { c with written := v.getD c.written }

/-- The cell that an access to a word of a page reaches (R20, R36). -/
def State.cellAt (s : State) (page o : Nat) : Option Cell := ((s.page page).frameAt o).map fun k => s.cell k o

/-- The stored value that a read of a word of a page recovers (R7). -/
def State.recoveredAt (s : State) (page o : Nat) : Option Word := (s.cellAt page o).bind fun c => c.content.recovered

/-- A word that can be recovered and was written as something else (R51). -/
def Cell.stale (c : Cell) : Bool :=
  match c.content with
  | .clean v => c.written != v
  | .single v => c.written != v
  | .double => false

/-- The counts of ADOPT with one word more (R51). -/
def AdoptCount.tally (n : AdoptCount) (c : Cell) : AdoptCount where
  changed := n.changed + if c.stale then 1 else 0
  double := n.double + if c.content == .double then 1 else 0

theorem PageEntry.names_of_touches {e : PageEntry} {o j : Nat} (h : e.touches o j) : e.names j :=
  h.elim PageEntry.names_of_frameAt PageEntry.names_of_alsoWritten

/-- The words of the image at one offset of a cell are of one page (R27). -/
theorem State.PoolLaw.touches_inj {s : State} (h : s.PoolLaw) {w w' : Nat × Nat} {j : Nat}
    (hw : (s.page w.1).touches w.2 j) (hw' : (s.page w'.1).touches w'.2 j) (ho : w.2 = w'.2) : w = w' :=
  Prod.ext (h.names_inj (PageEntry.names_of_touches hw) (PageEntry.names_of_touches hw')) ho

theorem State.cellAt_of_frameAt {s : State} {page o k : Nat} (h : (s.page page).frameAt o = some k) :
    s.cellAt page o = some (s.cell k o) := by
  unfold State.cellAt
  rw [h]
  rfl

theorem State.recoveredAt_of_frameAt {s : State} {page o k : Nat} (h : (s.page page).frameAt o = some k) :
    s.recoveredAt page o = (s.cell k o).content.recovered := by
  unfold State.recoveredAt
  rw [State.cellAt_of_frameAt h]
  rfl

/-- ADOPT with a recovered value at the frame of a word, and at the old frame as well below a move cursor (R51). -/
def State.adoptValue (s : State) (page offset k : Nat) (v : Word) : State :=
  let s1 := s.setCell k offset ((s.cell k offset).rewritten (some v))
  match (s.page page).alsoWritten offset with
  | some old => s1.setCell old offset ((s1.cell old offset).rewritten (some v))
  | none => s1

theorem State.adoptValue_eq (s : State) (page offset k : Nat) (v : Word) :
    s.adoptValue page offset k v = { s with mem := (s.adoptValue page offset k v).mem } := by
  unfold State.adoptValue
  dsimp only []
  split <;> rfl

theorem State.wf_adoptValue {s : State} (page offset k : Nat) (v : Word) (hwf : s.mem.wf) :
    (s.adoptValue page offset k v).mem.wf := by
  unfold State.adoptValue
  dsimp only []
  split
  · exact Memory.wf_set _ _ (Memory.wf_set _ _ hwf)
  · exact Memory.wf_set _ _ hwf

/-- The cells of the word take the value, and no other changes (R36, R51). -/
theorem State.cell_adoptValue {s : State} {page offset k : Nat} (v : Word) (hwf : s.mem.wf) (hoff : offset < 256)
    (hk : (s.page page).frameAt offset = some k) (j : Nat) {o : Nat} (ho : o < 256) :
    (s.adoptValue page offset k v).cell j o =
      if (s.page page).touches offset j ∧ o = offset then (s.cell j o).rewritten (some v) else s.cell j o := by
  have hwf1 := Memory.wf_set (wordKey k offset) ((s.cell k offset).rewritten (some v)) hwf
  have hcell1 : ∀ i, (s.setCell k offset ((s.cell k offset).rewritten (some v))).cell i offset =
      if i = k then (s.cell i offset).rewritten (some v) else s.cell i offset := fun i => by
    rw [s.cell_setCell _ hwf hoff hoff]
    by_cases hi : i = k <;> simp [hi]
  have hother1 : o ≠ offset → (s.setCell k offset ((s.cell k offset).rewritten (some v))).cell j o = s.cell j o :=
    fun hne => by rw [s.cell_setCell _ hwf hoff ho, if_neg fun h => hne h.2]
  unfold State.adoptValue PageEntry.touches
  rw [hk]
  by_cases heq : o = offset
  · subst heq
    cases (s.page page).alsoWritten o with
    | none => simp [hcell1, eq_comm]
    | some old =>
      dsimp only []
      rw [State.cell_setCell _ _ hwf1 ho ho, hcell1, hcell1]
      rcases eq_or_ne j old with rfl | hold
      · by_cases hj : j = k <;> simp [hj, Cell.rewritten]
      · rcases eq_or_ne j k with rfl | hj
        · simp [hold]
        · simp [hold, hj, hold.symm, hj.symm]
  · rw [if_neg fun h => heq h.2]
    cases (s.page page).alsoWritten offset with
    | none => exact hother1 heq
    | some old => exact (State.cell_setCell _ _ hwf1 hoff ho).trans ((if_neg fun h => heq h.2).trans (hother1 heq))

/-- ADOPT at a word with nothing to recover counts it where it is DOUBLE, and does nothing else (R51). -/
theorem State.adoptWord_of_unrecovered {s : State} {page offset : Nat} (n : AdoptCount)
    (h : s.recoveredAt page offset = none) :
    State.adoptWord page (s, n) offset = (s, (s.cellAt page offset).elim n n.tally) := by
  unfold State.adoptWord
  dsimp only []
  split
  · simp [State.cellAt, ‹(s.page page).frameAt offset = none›]
  · rename_i k hk
    rw [State.recoveredAt_of_frameAt hk] at h
    rw [State.cellAt_of_frameAt hk]
    split
    · simp [AdoptCount.tally, Cell.stale, ‹(s.cell k offset).content = .double›]
    all_goals
      rename_i hv
      rw [hv] at h
      cases h

/-- ADOPT at a word that can be recovered (R51). -/
theorem State.adoptWord_of_recovered {s : State} {page offset k : Nat} {v : Word} (n : AdoptCount)
    (hk : (s.page page).frameAt offset = some k) (hv : (s.cell k offset).content.recovered = some v) :
    State.adoptWord page (s, n) offset = (s.adoptValue page offset k v, n.tally (s.cell k offset)) := by
  unfold State.adoptWord State.adoptValue
  dsimp only []
  rw [hk]
  dsimp only []
  cases hc : (s.cell k offset).content with
  | double => rw [hc] at hv; cases hv
  | clean w | single w =>
    obtain rfl : w = v := by rw [hc] at hv; exact Option.some.inj hv
    have hadopt : (s.cell k offset).adopt = (s.cell k offset).rewritten (some w) := by
      simp [Cell.adopt, Cell.rewritten, hc]
    have htally : n.tally (s.cell k offset) =
        { n with changed := if (s.cell k offset).written = w then n.changed else n.changed + 1 } := by
      by_cases hw : (s.cell k offset).written = w <;> simp [AdoptCount.tally, Cell.stale, hc, hw]
    simp only [hadopt, htally]
    cases (s.page page).alsoWritten offset <;> rfl

/-- `x` is what ADOPT makes of `s` and the counts `n` at the words `ws`, each a page and an offset: every cell that holds one
of them takes its recovered value as the written one, and nothing else changes (R51). -/
structure State.Adopted (s : State) (n : AdoptCount) (ws : List (Nat × Nat)) (x : State × AdoptCount) : Prop where
  frame : x.1 = { s with mem := x.1.mem }
  wf : x.1.mem.wf
  cell : ∀ w ∈ ws, ∀ j, (s.page w.1).touches w.2 j → x.1.cell j w.2 = (s.cell j w.2).rewritten (s.recoveredAt w.1 w.2)
  others : ∀ j, ∀ o < 256, (∀ w ∈ ws, w.2 = o → ¬ (s.page w.1).touches o j) → x.1.cell j o = s.cell j o
  count : x.2 = (ws.filterMap fun w => s.cellAt w.1 w.2).foldl AdoptCount.tally n

/-- ADOPT at one word (R51). -/
theorem State.adoptWord_adopted {s : State} {page offset : Nat} (n : AdoptCount) (hwf : s.mem.wf) (hoff : offset < 256) :
    s.Adopted n [(page, offset)] (State.adoptWord page (s, n) offset) := by
  cases hrec : s.recoveredAt page offset with
  | none =>
    rw [State.adoptWord_of_unrecovered n hrec]
    refine ⟨rfl, hwf, fun w hw j _ => ?_, fun _ _ _ _ => rfl, ?_⟩
    · obtain rfl := List.mem_singleton.mp hw
      rw [hrec]
      rfl
    · cases hc : s.cellAt page offset <;> simp [hc]
  | some v =>
    obtain ⟨c, hc, hv⟩ := Option.bind_eq_some_iff.mp hrec
    obtain ⟨k, hk, rfl⟩ := Option.map_eq_some_iff.mp hc
    rw [State.adoptWord_of_recovered n hk hv]
    refine ⟨s.adoptValue_eq page offset k v, State.wf_adoptValue page offset k v hwf, fun w hw j hj => ?_,
      fun j o ho hnot => ?_, by simp [hc]⟩
    · obtain rfl := List.mem_singleton.mp hw
      rw [hrec]
      exact (State.cell_adoptValue v hwf hoff hk j hoff).trans (if_pos ⟨hj, rfl⟩)
    · refine (State.cell_adoptValue v hwf hoff hk j ho).trans (if_neg ?_)
      rintro ⟨hj, rfl⟩
      exact hnot _ (List.mem_singleton.mpr rfl) rfl hj

/-! ### The words of a region -/

/-- One word adopted and then others, none of which shares a cell with it (R27, R51). -/
theorem State.Adopted.cons {s : State} {n : AdoptCount} {w : Nat × Nat} {ws : List (Nat × Nat)} {y x : State × AdoptCount}
    (hpool : s.PoolLaw) (hoff : ∀ w' ∈ w :: ws, w'.2 < 256) (hne : w ∉ ws) (hy : s.Adopted n [w] y)
    (hx : y.1.Adopted y.2 ws x) : s.Adopted n (w :: ws) x := by
  have hpage : ∀ q, y.1.page q = s.page q := fun q => by rw [hy.frame]; rfl
  have hapart : ∀ w' ∈ ws, ∀ j, (s.page w'.1).touches w'.2 j → y.1.cell j w'.2 = s.cell j w'.2 := by
    intro w' hw' j hj
    refine hy.others j w'.2 (hoff w' (List.mem_cons_of_mem _ hw')) fun u hu ho htouch => hne ?_
    obtain rfl := List.mem_singleton.mp hu
    rwa [hpool.touches_inj (w := u) (w' := w') (by rw [ho]; exact htouch) hj ho]
  have hcellAt : ∀ w' ∈ ws, y.1.cellAt w'.1 w'.2 = s.cellAt w'.1 w'.2 := by
    intro w' hw'
    unfold State.cellAt
    rw [hpage]
    cases hk : (s.page w'.1).frameAt w'.2 with
    | none => rfl
    | some k => exact congrArg some (hapart w' hw' k (.inl hk))
  refine ⟨?_, hx.wf, fun w' hw' j hj => ?_, fun j o ho hnot => ?_, ?_⟩
  · rw [hx.frame, hy.frame]
  · rcases List.mem_cons.mp hw' with rfl | hw'
    · rw [hx.others j w'.2 (hoff w' (List.mem_cons_self ..)), hy.cell w' (List.mem_singleton.mpr rfl) j hj]
      intro u hu ho htouch
      rw [hpage] at htouch
      exact hne (hpool.touches_inj hj (ho ▸ htouch) ho.symm ▸ hu)
    · rw [hx.cell w' hw' j (by rw [hpage]; exact hj), hapart w' hw' j hj]
      unfold State.recoveredAt
      rw [hcellAt w' hw']
  · rw [hx.others j o ho fun u hu hu2 => by rw [hpage]; exact hnot u (List.mem_cons_of_mem _ hu) hu2]
    refine hy.others j o ho fun u hu => ?_
    obtain rfl := List.mem_singleton.mp hu
    exact hnot u (List.mem_cons_self ..)
  · rw [hx.count, hy.count, List.filterMap_congr hcellAt, ← List.foldl_append, ← List.filterMap_append]
    rfl

/-- ADOPT at different words one after another (R51). -/
theorem State.adoptWords_adopted : ∀ (ws : List (Nat × Nat)) {s : State} (n : AdoptCount), s.mem.wf → s.PoolLaw →
    ws.Nodup → (∀ w ∈ ws, w.2 < 256) → s.Adopted n ws (ws.foldl (fun x w => State.adoptWord w.1 x w.2) (s, n))
  | [], _, _, hwf, _, _, _ => ⟨rfl, hwf, fun _ hw => absurd hw List.not_mem_nil, fun _ _ _ _ => rfl, rfl⟩
  | w :: ws, s, n, hwf, hpool, hnodup, hoff => by
    obtain ⟨hne, hnodup⟩ := List.nodup_cons.mp hnodup
    have hy := s.adoptWord_adopted (page := w.1) n hwf (hoff w (List.mem_cons_self ..))
    refine hy.cons hpool hoff hne (State.adoptWords_adopted ws _ hy.wf ?_ hnodup fun u hu => hoff u (List.mem_cons_of_mem _ hu))
    rw [hy.frame]
    exact hpool

/-- The words of a region, page after page (R51). -/
def Region.places (r : Region) : List (Nat × Nat) := r.pages ×ˢ List.range 256

theorem Region.mem_places {r : Region} {w : Nat × Nat} : w ∈ r.places ↔ w.1 ∈ r.pages ∧ w.2 < 256 := by
  obtain ⟨page, o⟩ := w
  exact List.pair_mem_product.trans (and_congr_right' List.mem_range)

theorem Region.nodup_places (r : Region) : r.places.Nodup :=
  (List.nodup_range.map fun _ _ h => Nat.add_left_cancel h).product List.nodup_range

theorem Region.foldl_adoptPage (r : Region) (x : State × AdoptCount) :
    r.pages.foldl State.adoptPage x = r.places.foldl (fun x w => State.adoptWord w.1 x w.2) x := by
  simp only [Region.places, SProd.sprod, List.product, List.foldl_flatMap, List.foldl_map]
  rfl

/-- What ADOPT counts over a run of words (R51). -/
theorem AdoptCount.foldl_tally (cells : List Cell) : ∀ n : AdoptCount, cells.foldl AdoptCount.tally n =
    ⟨n.changed + cells.countP Cell.stale, n.double + cells.countP fun c => c.content == .double⟩ := by
  induction cells with
  | nil => exact fun n => rfl
  | cons c cells ih =>
    intro n
    rw [List.foldl_cons, ih, List.countP_cons, List.countP_cons]
    simp only [AdoptCount.tally, AdoptCount.mk.injEq]
    constructor <;> omega

/-- ADOPT of a region: its words adopted, its record CLEAN with its digest computed in full, and a pass on it begun afresh
(R51, R70). -/
theorem State.adoptRegion_spec {s : State} (hwf : s.mem.wf) (hpool : s.PoolLaw) (id : Nat) (r : Region) :
    ∃ m n, s.Adopted ⟨0, 0⟩ r.places ({ s with mem := m }, n) ∧
      s.adoptRegion id r = ((({ s with mem := m } : State).setRegion id
        (some { r with live := ({ s with mem := m } : State).regionDigest r, state := .clean })).restartPassOn id, n) := by
  have h := State.adoptWords_adopted r.places ⟨0, 0⟩ hwf hpool r.nodup_places fun w hw => (Region.mem_places.mp hw).2
  unfold State.adoptRegion
  rw [Region.foldl_adoptPage]
  generalize r.places.foldl (fun x w => State.adoptWord w.1 x w.2) (s, ⟨0, 0⟩) = x at h ⊢
  obtain ⟨x, n⟩ := x
  obtain ⟨m, rfl⟩ : ∃ m, x = { s with mem := m } := ⟨x.mem, h.frame⟩
  exact ⟨m, n, h, rfl⟩

/-- ADOPT changes no stored value and no check state (R51). -/
theorem State.Adopted.content {s : State} {n : AdoptCount} {ws : List (Nat × Nat)} {x : State × AdoptCount}
    (h : s.Adopted n ws x) (a : Nat) : (x.1.mem.get a).content = (s.mem.get a).content := by
  have hkey : wordKey (a / 256) (a % 256) = a := by unfold wordKey; omega
  have hcell : (x.1.cell (a / 256) (a % 256)).content = (s.cell (a / 256) (a % 256)).content := by
    by_cases hw : ∀ w ∈ ws, w.2 = a % 256 → ¬ (s.page w.1).touches (a % 256) (a / 256)
    · rw [h.others _ _ (Nat.mod_lt _ (by decide)) hw]
    · push Not at hw
      obtain ⟨w, hw, ho, htouch⟩ := hw
      rw [← ho] at htouch ⊢
      rw [h.cell w hw _ htouch]
      rfl
  unfold State.cell at hcell
  rwa [hkey] at hcell

/-- ADOPT leaves every word that is no word of its list (R51). -/
theorem State.Adopted.get_of_untouched {s : State} {n : AdoptCount} {ws : List (Nat × Nat)} {x : State × AdoptCount}
    (h : s.Adopted n ws x) {a : Nat} (ha : ∀ w ∈ ws, ∀ j, (s.page w.1).touches w.2 j → a ≠ wordKey j w.2) :
    x.1.mem.get a = s.mem.get a := by
  have hkey : wordKey (a / 256) (a % 256) = a := by unfold wordKey; omega
  have hcell := h.others (a / 256) (a % 256) (Nat.mod_lt _ (by decide)) fun w hw ho htouch =>
    ha w hw (a / 256) (ho ▸ htouch) (by rw [ho, hkey])
  unfold State.cell at hcell
  rwa [hkey] at hcell

/-- ADOPT gives a word that can be recovered its stored value as its written one, in both frames below a move cursor (R51). -/
theorem State.Adopted.written_of_recovered {s : State} {n : AdoptCount} {ws : List (Nat × Nat)} {x : State × AdoptCount}
    {page offset frame : Nat} {v : Word} (h : s.Adopted n ws x) (hw : (page, offset) ∈ ws)
    (hf : (s.page page).frameAt offset = some frame)
    (hv : (s.cell frame offset).content = .clean v ∨ (s.cell frame offset).content = .single v) :
    (x.1.cell frame offset).written = v ∧
      ∀ old, (s.page page).alsoWritten offset = some old → (x.1.cell old offset).written = v := by
  have hrec : s.recoveredAt page offset = some v := by
    rw [State.recoveredAt_of_frameAt hf]
    rcases hv with hv | hv <;> rw [hv] <;> rfl
  have hcell : ∀ j, (s.page page).touches offset j → (x.1.cell j offset).written = v := fun j hj => by
    rw [h.cell _ hw j hj, hrec]
    rfl
  exact ⟨hcell frame (.inl hf), fun old hold => hcell old (.inr hold)⟩

/-- ADOPT leaves a DOUBLE word as it is, in both frames below a move cursor (R51). -/
theorem State.Adopted.cell_of_double {s : State} {n : AdoptCount} {ws : List (Nat × Nat)} {x : State × AdoptCount}
    {page offset frame : Nat} (h : s.Adopted n ws x) (hw : (page, offset) ∈ ws)
    (hf : (s.page page).frameAt offset = some frame) (hd : (s.cell frame offset).content = .double) :
    x.1.cell frame offset = s.cell frame offset ∧
      ∀ old, (s.page page).alsoWritten offset = some old → x.1.cell old offset = s.cell old offset := by
  have hrec : s.recoveredAt page offset = none := by
    rw [State.recoveredAt_of_frameAt hf, hd]
    rfl
  have hcell : ∀ j, (s.page page).touches offset j → x.1.cell j offset = s.cell j offset := fun j hj => by
    rw [h.cell _ hw j hj, hrec]
    rfl
  exact ⟨hcell frame (.inl hf), fun old hold => hcell old (.inr hold)⟩

/-! ### The pass begun afresh -/

/-- The patrol unit with a pass on this region begun afresh (R70). -/
def Patrol.restartedOn (p : Patrol) (id : Nat) : Patrol :=
  match p.pass with
  | some q => if q.region = id then { p with pass := some ⟨id, 0, 0, false⟩ } else p
  | none => p

theorem State.restartPassOn_eq (s : State) (id : Nat) :
    s.restartPassOn id = { s with patrol := s.patrol.restartedOn id } := by
  unfold State.restartPassOn Patrol.restartedOn
  cases s.patrol.pass with
  | none => rfl
  | some q =>
    dsimp only []
    split <;> rfl

theorem Patrol.restartedOn_of_pass {p : Patrol} {id : Nat} {q : Pass} (hq : p.pass = some q) (hid : q.region = id) :
    p.restartedOn id = { p with pass := some ⟨id, 0, 0, false⟩ } := by
  unfold Patrol.restartedOn
  rw [hq]
  exact if_pos hid

theorem Patrol.restartedOn_of_other {p : Patrol} {id : Nat} (h : ∀ q, p.pass = some q → q.region ≠ id) :
    p.restartedOn id = p := by
  unfold Patrol.restartedOn
  cases hq : p.pass with
  | none => rfl
  | some q => exact if_neg (h q hq)

/-! ### A warm restart that waits is not looked at -/

/-- The state with a warm restart put off or not (R52, R128). -/
def State.withDue (s : State) (due : Bool) : State := { s with restartDue := due }

theorem State.adoptWord_withDue (due : Bool) (page offset : Nat) (x : State × AdoptCount) :
    State.adoptWord page (x.1.withDue due, x.2) offset =
      ((State.adoptWord page x offset).1.withDue due, (State.adoptWord page x offset).2) := by
  have hpage : (x.1.withDue due).page page = x.1.page page := rfl
  have hcell : ∀ k o, (x.1.withDue due).cell k o = x.1.cell k o := fun _ _ => rfl
  unfold State.adoptWord
  simp only [hpage, hcell]
  cases (x.1.page page).frameAt offset with
  | none => rfl
  | some k =>
    dsimp only []
    cases (x.1.cell k offset).content with
    | double => rfl
    | clean v | single v => cases (x.1.page page).alsoWritten offset <;> rfl

/-- The words of a region are adopted alike with a warm restart put off (R52). -/
theorem State.adoptPages_withDue (due : Bool) (r : Region) (x : State × AdoptCount) :
    r.pages.foldl State.adoptPage (x.1.withDue due, x.2) =
      ((r.pages.foldl State.adoptPage x).1.withDue due, (r.pages.foldl State.adoptPage x).2) := by
  simp only [Region.foldl_adoptPage]
  exact (List.foldl_hom (fun x : State × AdoptCount => (x.1.withDue due, x.2)) fun x w =>
    State.adoptWord_withDue due w.1 w.2 x)

theorem State.reply_withDue (s : State) (due : Bool) (o : ReplyOutcome) (bs : List Byte) :
    (s.withDue due).reply o bs = (s.reply o bs).withDue due := by
  rw [State.reply_eq, State.reply_eq]
  unfold State.reply State.withDue
  cases s.port.service <;> rfl

theorem State.adoptRegion_withDue (s : State) (due : Bool) (id : Nat) (r : Region) :
    (s.withDue due).adoptRegion id r = ((s.adoptRegion id r).1.withDue due, (s.adoptRegion id r).2) := by
  unfold State.adoptRegion
  dsimp only []
  rw [State.adoptPages_withDue due r (s, ⟨0, 0⟩), State.restartPassOn_eq, State.restartPassOn_eq]
  rfl

/-- ADOPT and its reply are the same with a warm restart put off (R52). -/
theorem State.adoptReply_withDue (s : State) (due : Bool) (id : Nat) :
    State.adoptReply id (s.withDue due) = (State.adoptReply id s).withDue due := by
  have hregion : (s.withDue due).laneRegion id = s.laneRegion id := rfl
  have hpage : ∀ q, (s.withDue due).page q = s.page q := fun _ => rfl
  unfold State.adoptReply
  rw [hregion]
  cases s.laneRegion id with
  | none => exact s.reply_withDue due _ _
  | some r =>
    simp only [hpage, State.adoptRegion_withDue]
    split
    · exact State.reply_withDue _ due _ _
    · exact s.reply_withDue due _ _

/-! ### ADOPT at its block -/

/-- ADOPT that is given goes to its block in hand (R50, R176). -/
theorem execAdopt_given {s : State} {tag id : Nat} (h : s.given 9 tag (.adopt tag id)) :
    exec (.adopt tag id) s = .next (State.adoptEvent id (s.inHand 9 tag)) :=
  congrArg Host.Outcome.next
    (State.request_given (payload := field1 id) (State.adoptEvent id) rfl (by decide) (by simp [field1]) rfl h)

theorem execAdopt_undisturbed {s : State} {tag id : Nat} (h : s.given 9 tag (.adopt tag id)) (hdue : s.restartDue = false) :
    exec (.adopt tag id) s = .next (State.adoptReply id (s.inHand 9 tag)) := by
  rw [execAdopt_given h]
  unfold State.adoptEvent
  simp [hdue]

/-- A warm restart that waited for ADOPT acts on what ADOPT leaves, with no reply made ready (R52, R185; log 19). -/
theorem execAdopt_restarted {s : State} {tag id : Nat} (h : s.given 9 tag (.adopt tag id)) (hdue : s.restartDue = true) :
    exec (.adopt tag id) s =
      .next ({ State.adoptReply id (s.inHand 9 tag) with port := s.port.inHand 9 tag } : State).warmRestart := by
  rw [execAdopt_given h]
  unfold State.adoptEvent
  simp [hdue]

theorem State.laneRegion_of_lane {s : State} {id : Nat} {r : Region} (hr : s.region id = some r) (hc : r.cls = .lane) :
    s.laneRegion id = some r := by
  unfold State.laneRegion
  rw [hr]
  exact if_pos hc

theorem State.laneRegion_none {s : State} {id : Nat} (h : ∀ r, s.region id = some r → r.cls = .vital) :
    s.laneRegion id = none := by
  unfold State.laneRegion
  split
  · rename_i r hr
    rw [if_neg (by rw [h r hr]; decide)]
  · rfl

/-- What ADOPT counts over a region is counted over its cells page after page (R51). -/
theorem State.filterMap_places (s : State) (r : Region) :
    (r.places.filterMap fun w => s.cellAt w.1 w.2) = r.pages.flatMap fun page => (List.range 256).filterMap fun offset =>
      ((s.page page).frameAt offset).map fun frame => s.cell frame offset := by
  simp only [Region.places, SProd.sprod, List.product, List.filterMap_flatMap, List.filterMap_map]
  rfl

/-- ADOPT is refused for a region that is not a defined LANE region (R50). -/
theorem execAdopt_badArgument {s : State} {tag id : Nat} (h : s.given 9 tag (.adopt tag id)) (hdue : s.restartDue = false)
    (hvital : ∀ r, s.region id = some r → r.cls = .vital) :
    exec (.adopt tag id) s = .next (s.answered 9 tag .badArgument []) := by
  have hnone : (s.inHand 9 tag).laneRegion id = none := State.laneRegion_none hvital
  rw [execAdopt_undisturbed h hdue]
  unfold State.adoptReply
  rw [hnone]
  exact congrArg Host.Outcome.next (s.inHand_reply 9 tag .badArgument [])

/-- ADOPT is refused for a region with an UNMAPPED page (R50). -/
theorem execAdopt_notMapped {s : State} {tag id page : Nat} {r : Region} (h : s.given 9 tag (.adopt tag id))
    (hdue : s.restartDue = false) (hr : s.region id = some r) (hlane : r.cls = .lane) (hp : page ∈ r.pages)
    (hun : (s.page page).mapped = false) :
    exec (.adopt tag id) s = .next (s.answered 9 tag .notMapped []) := by
  have hsome : (s.inHand 9 tag).laneRegion id = some r := State.laneRegion_of_lane hr hlane
  have hall : ¬ (r.pages.all fun q => ((s.inHand 9 tag).page q).mapped) = true := fun hall =>
    Bool.false_ne_true (hun.symm.trans (List.all_eq_true.mp hall page hp))
  rw [execAdopt_undisturbed h hdue]
  unfold State.adoptReply
  rw [hsome]
  exact congrArg Host.Outcome.next ((if_neg hall).trans (s.inHand_reply 9 tag .notMapped []))

/-- ADOPT that is taken: the words adopted, the record of the region, a pass on it, and the answer (R51, R70, R187). -/
theorem execAdopt_taken {s : State} {tag id : Nat} {r : Region} (h : s.given 9 tag (.adopt tag id))
    (hdue : s.restartDue = false) (hr : s.region id = some r) (hlane : r.cls = .lane)
    (hmapped : ∀ page ∈ r.pages, (s.page page).mapped = true) (hwf : s.mem.wf) (hpool : s.PoolLaw) :
    ∃ t n, exec (.adopt tag id) s = .next t ∧ s.Adopted ⟨0, 0⟩ r.places ({ s with mem := t.mem }, n) ∧
      t = { s with
        mem := t.mem
        regions := tableSet s.regions id (some { r with live := t.regionDigest r, state := .clean })
        patrol := s.patrol.restartedOn id
        port := s.port.answered 9 tag .ok (field3 (t.regionDigest r).val ++ field2 n.changed ++ field2 n.double) } := by
  have hsome : (s.inHand 9 tag).laneRegion id = some r := State.laneRegion_of_lane hr hlane
  have hall : (r.pages.all fun q => ((s.inHand 9 tag).page q).mapped) = true := List.all_eq_true.mpr hmapped
  obtain ⟨m, n, ⟨-, hm, hcell, hothers, hcount⟩, heq⟩ := (s.inHand 9 tag).adoptRegion_spec hwf hpool id r
  rw [execAdopt_undisturbed h hdue]
  unfold State.adoptReply
  rw [hsome]
  dsimp only []
  rw [if_pos hall, heq, State.restartPassOn_eq, State.reply_of_service (kind := 9) (tag := tag) (c := none) rfl]
  exact ⟨_, n, rfl, ⟨rfl, hm, hcell, hothers, hcount⟩, rfl⟩

/-- A warm restart that waited for ADOPT acts on the state that ADOPT would have left (R52, R185; log 19). -/
theorem execAdopt_thenRestart {s u : State} {tag id : Nat} (h : s.given 9 tag (.adopt tag id)) (hdue : s.restartDue = true)
    (hu : exec (.adopt tag id) (s.withDue false) = .next u) :
    ∃ t, exec (.adopt tag id) s = .next t ∧ u.WarmRestarted t ∧ t.port = (s.port.inHand 9 tag).restarted := by
  rw [execAdopt_undisturbed (s := s.withDue false) h rfl] at hu
  have hu : State.adoptReply id ((s.inHand 9 tag).withDue false) = u := Host.Outcome.next.inj hu
  rw [State.adoptReply_withDue] at hu
  subst hu
  exact ⟨_, execAdopt_restarted h hdue, State.warmRestarted_warmRestart _, State.warmRestart_port _⟩

/-- Settles O30: ADOPT at its block adopts the words of the region one after another, and no two of them share a cell. -/
theorem adoptRecomputesDigest : Obligations.AdoptRecomputesDigest := by
  refine ⟨fun s u tag id hgiven hdue hu => execAdopt_thenRestart hgiven hdue hu, fun s tag id hgiven hdue =>
    ⟨execAdopt_badArgument hgiven hdue, fun r hr hlane => ⟨?refused, fun hmapped hwf hpool => ?taken⟩⟩⟩
  case refused =>
    rintro ⟨page, hp, hun⟩
    exact execAdopt_notMapped hgiven hdue hr hlane hp hun
  case taken =>
    obtain ⟨t, n, hexec, hadopted, ht⟩ := execAdopt_taken hgiven hdue hr hlane hmapped hwf hpool
    have hregions : t.regions = _ := congrArg State.regions ht
    have hpatrol : t.patrol = _ := congrArg State.patrol ht
    have hcounts : n = _ := hadopted.count
    rw [State.filterMap_places, AdoptCount.foldl_tally, Nat.zero_add, Nat.zero_add] at hcounts
    refine ⟨t, hexec, hadopted.content, fun page hp offset ho frame hf v hv =>
        hadopted.written_of_recovered (Region.mem_places.mpr ⟨hp, ho⟩) hf hv,
      fun page hp offset ho frame hf hd => hadopted.cell_of_double (Region.mem_places.mpr ⟨hp, ho⟩) hf hd,
      fun a ha => hadopted.get_of_untouched fun w hw j hj => ?others, ?record, fun j hj => ?records,
      fun p hp hid => hpatrol.trans (Patrol.restartedOn_of_pass hp hid),
      fun hp => hpatrol.trans (Patrol.restartedOn_of_other hp), ?frame⟩
    case others =>
      obtain ⟨hp, ho⟩ := Region.mem_places.mp hw
      exact ha w.1 hp w.2 ho j hj
    case record =>
      unfold State.region
      rw [hregions]
      exact (tableGet_tableSet _ _ _ _ (State.region_lt hr)).trans (if_pos rfl)
    case records =>
      unfold State.region
      rw [hregions]
      exact tableGet_tableSet_ne _ _ _ (Ne.symm hj)
    case frame =>
      subst hcounts
      rw [hregions, hpatrol]
      exact ht

end Sys2Proof.Machine
end

section
/-! The patrol's selection, its steps and the end of its passes (R57 to R61, R64 to R66). -/

namespace Sys2Proof.Machine

/-! ### Eligibility and selection -/

/-- A region is eligible with every page mapped and, where it is VITAL, not INCOMPLETE (R57). -/
theorem State.eligible_iff {s : State} {id : Nat} : s.eligible id = true ↔ ∃ r, s.region id = some r ∧
    (∀ page ∈ r.pages, (s.page page).mapped = true) ∧ ¬ (r.cls = .vital ∧ r.state = .incomplete) := by
  unfold State.eligible
  cases s.region id with
  | none => simp
  | some r => simp [-not_and, not_and_or]

/-- Eligibility is judged from the region table and the page map alone (R57). -/
theorem State.eligible_congr {s t : State} (hregions : t.regions = s.regions) (hpages : t.pages = s.pages) :
    t.eligible = s.eligible := by
  funext id
  simp only [State.eligible, State.region_congr hregions, State.page_congr hpages]

/-- With P = 0 no selection is made (R59). -/
theorem State.selectPass_of_paused {s : State} (hpace : s.config.pace = 0) :
    s.selectPass = { s with patrol := ⟨s.patrol.walk, none⟩ } := by
  rw [State.selectPass_eq, State.selectPass_patrol, if_pos hpace]

/-- What a patrol that waits becomes at a selection: it begins a pass of the next eligible region in the walk, or waits on
(R58). -/
def Patrol.selected (p : Patrol) (eligible : Nat → Bool) : Patrol :=
  match (walkOrder p.walk).find? eligible with
  | some id => ⟨some id, some ⟨id, 0, 0, false⟩⟩
  | none => p

/-- A selection is made from a patrol with no pass under way (R58). -/
theorem State.selectPass_of_paced {s : State} (hpace : 0 < s.config.pace) :
    s.selectPass = { s with patrol := Patrol.selected ⟨s.patrol.walk, none⟩ s.eligible } := by
  rw [State.selectPass_eq, State.selectPass_patrol, if_neg (Nat.pos_iff_ne_zero.mp hpace)]
  unfold Patrol.selected
  cases (walkOrder s.patrol.walk).find? s.eligible <;> rfl

theorem Patrol.eq_of_waiting {p : Patrol} (h : p.pass = none) : ⟨p.walk, none⟩ = p := by rw [← h]

/-- A patrol with a pass under way does not select, and none selects with P = 0 (R58, R59). -/
theorem State.selectIfWaiting_of_still {s : State} (h : s.patrol.pass ≠ none ∨ s.config.pace = 0) :
    s.selectIfWaiting = s := by
  unfold State.selectIfWaiting
  cases hpass : s.patrol.pass with
  | none =>
    have hpace := h.resolve_left (not_not_intro hpass)
    exact (State.selectPass_of_paused hpace).trans (by rw [Patrol.eq_of_waiting hpass])
  | some p => rfl

/-- A patrol that waits selects (R58). -/
theorem State.selectIfWaiting_of_waiting {s : State} (hpass : s.patrol.pass = none) (hpace : 0 < s.config.pace) :
    s.selectIfWaiting = { s with patrol := s.patrol.selected s.eligible } := by
  unfold State.selectIfWaiting
  rw [hpass]
  exact (State.selectPass_of_paced hpace).trans (by rw [Patrol.eq_of_waiting hpass])

/-- A selection that may be made changes the patrol unit alone (R58). -/
theorem State.selectIfWaiting_eq (s : State) : s.selectIfWaiting = { s with patrol := s.selectIfWaiting.patrol } := by
  unfold State.selectIfWaiting
  split
  · exact s.selectPass_eq
  · rfl

/-! ### A step of a pass -/

@[simp] theorem Pass.step_region (p : Pass) (seed : Nat) (value : Option Word) : (p.step seed value).region = p.region := by
  cases value <;> rfl
@[simp] theorem Pass.step_cursor (p : Pass) (seed : Nat) (value : Option Word) :
    (p.step seed value).cursor = p.cursor + 1 := by
  cases value <;> rfl

/-- A pass that was spoiled, or whose figure is the live digest, ends with nothing brought about (R64). -/
theorem State.judgePass_of_equal {s : State} {p : Pass} {r : Region} (h : p.spoiled = true ∨ p.acc = r.live) :
    s.judgePass p r = s := by
  unfold State.judgePass
  exact if_pos h

/-- The end of a pass of a VITAL region with another figure than the live digest (R65). -/
theorem State.judgePass_vital {s : State} {p : Pass} {r : Region} (hspoiled : p.spoiled = false) (hacc : p.acc ≠ r.live)
    (hr : r.cls = .vital) :
    s.judgePass p r = (s.raise (.patrol p.region .silent)).stopRequest .silent p.region := by
  unfold State.judgePass
  rw [if_neg (by simp [hspoiled, hacc]), hr]

/-- The end of a pass of a LANE region with another figure than the live digest (R66). -/
theorem State.judgePass_lane {s : State} {p : Pass} {r : Region} (hspoiled : p.spoiled = false) (hacc : p.acc ≠ r.live)
    (hr : r.cls = .lane) :
    s.judgePass p r =
      (s.raise (.patrol p.region .suspect)).setRegion p.region (some { r with state := .suspect }) := by
  unfold State.judgePass
  rw [if_neg (by simp [hspoiled, hacc]), hr]

/-- No step is made with P = 0 (R59). -/
theorem State.patrolStep_of_paused {s : State} (hpace : s.config.pace = 0) : s.patrolStep = s := by
  unfold State.patrolStep
  split
  · rfl
  · split
    · rfl
    · exact if_pos hpace

/-- A step reads the word at the cursor and moves the pass on; at the end of the region it judges the pass and selects (R60,
R61, R64). -/
theorem State.patrolStep_eq {s s1 : State} {p : Pass} {r : Region} {value : Option Word} (hpass : s.patrol.pass = some p)
    (hr : s.region p.region = some r) (hpace : 0 < s.config.pace)
    (hread : s.readWord (r.first + p.cursor / 256) (p.cursor % 256) .patrol = (s1, value)) :
    let q := p.step r.seed value
    let last : State := { s1 with patrol := ⟨s.patrol.walk, some q⟩ }
    s.patrolStep = if p.cursor + 1 < r.words then last else (last.judgePass q r).selectPass := by
  have hpatrol : s1.patrol = s.patrol := by
    have heq := congrArg State.patrol (s.readWord_eq (r.first + p.cursor / 256) (p.cursor % 256) .patrol)
    rw [hread] at heq
    exact heq
  unfold State.patrolStep
  simp only [hpass, hr, if_neg (Nat.pos_iff_ne_zero.mp hpace), hread, hpatrol, Pass.step_cursor]

/-- Settles O40: a step is the read with the pass moved on, its end is by the figure and the class of its region, and a
selection is by the pace. -/
theorem patrolStepReads : Obligations.PatrolStepReads := by
  refine ⟨?step, fun s hpace => ?selects, fun s hpace => ⟨congrArg Host.Outcome.next (State.patrolStep_of_paused hpace),
    State.selectPass_of_paused hpace⟩, fun s id => State.eligible_iff, rfl, by decide⟩
  case selects =>
    rw [State.selectPass_of_paced hpace]
    unfold Patrol.selected
    dsimp only []
    cases (walkOrder s.patrol.walk).find? s.eligible <;> rfl
  case step =>
    intro s s1 p q r value hpass hr hpace hread hq last
    have hq : q = p.step r.seed value := by cases value <;> exact hq
    have hstep : exec .patrolStep s =
        .next (if p.cursor + 1 < r.words then last else (last.judgePass q r).selectPass) := by
      subst hq
      exact congrArg Host.Outcome.next (State.patrolStep_eq hpass hr hpace hread)
    have hregion : q.region = p.region := by rw [hq, Pass.step_region]
    refine ⟨fun hmore => by rw [hstep, if_pos hmore], fun hend hequal => ?_, fun hend hspoiled hacc =>
      ⟨fun hvital => ?_, fun hlane => ?_⟩⟩ <;> rw [hstep, if_neg (Nat.not_lt.mpr hend)]
    · rw [State.judgePass_of_equal hequal]
    · rw [State.judgePass_vital hspoiled hacc hvital, hregion]
    · rw [State.judgePass_lane hspoiled hacc hlane, hregion]

end Sys2Proof.Machine
end

section
/-! CONFIG-LANE at its block (R58, R59, R165, R180). -/

namespace Sys2Proof.Machine

/-! ### A configuration applied -/

/-- The patrol after a configuration is applied: a pace raised from 0 makes a patrol that waits select (R58, R59). -/
def State.repacedPatrol (s : State) (pace : Nat) : Patrol :=
  if s.config.pace = 0 ∧ 0 < pace ∧ s.patrol.pass = none then s.patrol.selected s.eligible else s.patrol

/-- The state with a configuration applied, before the patrol looks at the pace (R165, R180). -/
def State.reconfigured (s : State) (c : LaneConfig) : State :=
  { s with
    config := c
    linkU := if c.lane = s.config.lane then s.linkU else s.linkU.emptied
    linkV := if c.lane = s.config.lane then s.linkV else s.linkV.emptied }

/-- A configuration applied may make a selection only where it raises the pace from 0 (R59, R180). -/
theorem State.configure_eq_ite (s : State) (c : LaneConfig) : s.configure c =
    if s.config.pace = 0 ∧ 0 < c.pace then (s.reconfigured c).selectIfWaiting else s.reconfigured c := by
  unfold State.configure State.reconfigured
  dsimp only []
  by_cases hlane : c.lane = s.config.lane
  · simp only [if_pos hlane]
  · simp only [if_neg hlane]

/-- What a configuration applied leaves (R58, R165, R180). -/
theorem State.configure_eq (s : State) (c : LaneConfig) :
    s.configure c = { s.reconfigured c with patrol := s.repacedPatrol c.pace } := by
  rw [State.configure_eq_ite, State.repacedPatrol]
  by_cases hraised : s.config.pace = 0 ∧ 0 < c.pace
  · rw [if_pos hraised]
    obtain ⟨hpaused, hpace⟩ := hraised
    by_cases hpass : s.patrol.pass = none
    · rw [if_pos ⟨hpaused, hpace, hpass⟩]
      exact State.selectIfWaiting_of_waiting (s := s.reconfigured c) hpass hpace
    · rw [if_neg fun ⟨_, _, h⟩ => hpass h]
      exact State.selectIfWaiting_of_still (s := s.reconfigured c) (.inl hpass)
  · rw [if_neg hraised, if_neg fun ⟨hpaused, hpace, _⟩ => hraised ⟨hpaused, hpace⟩]
    rfl

/-- A pace above 0 is above 0 with its clamp (R180). -/
theorem appliedConfig_pace_pos {v : LaneValues} : 0 < (appliedConfig v).pace ↔ 0 < v.pace := by
  simp [appliedConfig, clamp]

/-! ### The request -/

/-- CONFIG-LANE that is given goes to its block in hand (R176, R180). -/
theorem execConfigLane_given {s : State} {tag : Nat} {v : LaneValues} (h : s.given 2 tag (.configLane tag v)) :
    exec (.configLane tag v) s = .next (State.configLaneEvent v (s.inHand 2 tag)) :=
  congrArg Host.Outcome.next (State.request_given (payload := laneBytes v) (State.configLaneEvent v) rfl (by decide)
    (by simp [laneBytes, field1, field2]) rfl h)

/-- CONFIG-LANE out of OFFLINE is refused (R180). -/
theorem execConfigLane_wrongMode {s : State} {tag : Nat} {v : LaneValues} (h : s.given 2 tag (.configLane tag v))
    (hmode : s.isOffline = false) : exec (.configLane tag v) s = .next (s.answered 2 tag .wrongMode []) := by
  have hmode : (!(s.inHand 2 tag).isOffline) = true := by simpa [State.isOffline] using hmode
  rw [execConfigLane_given h, State.configLaneEvent, if_pos hmode, State.inHand_reply]

/-- CONFIG-LANE with a lane number or a serve enable out of its range is refused (R180). -/
theorem execConfigLane_badArgument {s : State} {tag : Nat} {v : LaneValues} (h : s.given 2 tag (.configLane tag v))
    (hmode : s.isOffline = true) (hbad : 2 < v.lane ∨ 1 < v.serveEnable) :
    exec (.configLane tag v) s = .next (s.answered 2 tag .badArgument []) := by
  have hmode : ¬ (!(s.inHand 2 tag).isOffline) = true := by simpa [State.isOffline] using hmode
  rw [execConfigLane_given h, State.configLaneEvent, if_neg hmode, if_pos hbad, State.inHand_reply]

/-- CONFIG-LANE in OFFLINE with both in range applies its values and answers with them (R180). -/
theorem execConfigLane_taken {s : State} {tag : Nat} {v : LaneValues} (h : s.given 2 tag (.configLane tag v))
    (hmode : s.isOffline = true) (hlane : v.lane ≤ 2) (hserve : v.serveEnable ≤ 1) :
    exec (.configLane tag v) s = .next { s.reconfigured (appliedConfig v) with
      port := s.port.answered 2 tag .ok (appliedConfig v).bytes
      patrol := s.repacedPatrol (appliedConfig v).pace } := by
  have hmode : ¬ (!(s.inHand 2 tag).isOffline) = true := by simpa [State.isOffline] using hmode
  have hgood : ¬ (2 < v.lane ∨ 1 < v.serveEnable) := by omega
  rw [execConfigLane_given h, State.configLaneEvent, if_neg hmode, if_neg hgood, State.configure_eq,
    State.reply_of_service (kind := 2) (tag := tag) (c := none) rfl]
  rfl

/-- Settles O16, by the checks of CONFIG-LANE in their order: its mode, its two bounded values, and what it applies. -/
theorem configLaneApplies : Obligations.ConfigLaneApplies := by
  intro s tag v hgiven
  refine ⟨execConfigLane_wrongMode hgiven, execConfigLane_badArgument hgiven, fun hmode hlane hserve =>
    ⟨_, execConfigLane_taken hgiven hmode hlane hserve, rfl, rfl, fun hstill => if_neg ?_, fun hpaused hpace hpass => ?_⟩⟩
  · rwa [appliedConfig_pace_pos]
  · exact if_pos ⟨hpaused, appliedConfig_pace_pos.mpr hpace, hpass⟩

end Sys2Proof.Machine
end

section
/-! The SYNC-MARK: its check, the attempt that fails at it, and the join that completes (R58, R151 to R153). -/

namespace Sys2Proof.Machine

/-! ### One region restored -/

/-- A region's record as a join completion leaves it (R152). -/
def Region.restored (r : Region) : Region := if r.cls = .vital then { r with state := .clean } else r

@[simp] theorem Region.restored_cls (r : Region) : r.restored.cls = r.cls := by
  unfold Region.restored
  split <;> rfl
@[simp] theorem Region.restored_pages (r : Region) : r.restored.pages = r.pages := by
  unfold Region.restored
  split <;> rfl
@[simp] theorem Region.restored_restored (r : Region) : r.restored.restored = r.restored := by
  unfold Region.restored
  split <;> simp_all
@[simp] theorem PageEntry.restored_restored (e : PageEntry) : e.restored.restored = e.restored := by cases e <;> rfl

/-- The region of an id is VITAL and holds a page (R21). -/
def State.vitalAt (s : State) (id page : Nat) : Bool :=
  (s.region id).any fun r => r.cls == .vital && r.pages.contains page

theorem State.vitalAt_iff {s : State} {id page : Nat} :
    s.vitalAt id page = true ↔ ∃ r, s.region id = some r ∧ r.cls = .vital ∧ page ∈ r.pages := by
  unfold State.vitalAt
  cases s.region id <;> simp

/-- The entry of a page after a change of one page's entry that leaves UNMAPPED alone, in the page space or not. -/
theorem State.page_changePage (s : State) {f : PageEntry → PageEntry} (hf : f .unmapped = .unmapped) (p page : Nat) :
    (s.setPage p (f (s.page p))).page page = if p = page then f (s.page page) else s.page page := by
  by_cases hp : p < 120
  · rw [State.page_setPage s page _ hp]
    split
    · rename_i hpage
      rw [hpage]
    · rfl
  · have hout : ∀ t : State, t.page p = .unmapped := fun t => tableGet_of_ge _ _ (Nat.not_lt.mp hp)
    split
    · rename_i hpage
      rw [← hpage, hout, hout, hf]
    · rename_i hpage
      exact tableGet_tableSet_ne _ _ _ hpage

/-- Pages back in ordinary access, one after the other (R152). -/
def State.restorePages (s : State) (pages : List Nat) : State :=
  pages.foldl (fun s p => s.setPage p (s.page p).restored) s

/-- The entry of a page after the pages of a list are restored in turn (R152). -/
theorem State.page_restorePages (pages : List Nat) : ∀ (s : State) (page : Nat),
    (s.restorePages pages).page page =
      if page ∈ pages then (s.page page).restored else s.page page := by
  induction pages with
  | nil => exact fun s page => (if_neg List.not_mem_nil).symm
  | cons p pages ih =>
    intro s page
    refine (ih (s.setPage p (s.page p).restored) page).trans ?_
    rw [State.page_changePage s (f := PageEntry.restored) rfl]
    by_cases hp : p = page <;> by_cases hpages : page ∈ pages <;> simp [hp, hpages, eq_comm]

/-- Pages restored in turn change the page map alone (R152). -/
theorem State.restorePages_eq (pages : List Nat) : ∀ s : State,
    s.restorePages pages = { s with pages := (s.restorePages pages).pages } := by
  induction pages with
  | nil => exact fun s => rfl
  | cons p pages ih => exact fun s => ih (s.setPage p (s.page p).restored)

/-- A region that is not VITAL is left alone at a join completion (R152). -/
theorem State.restoreRegion_of_other {s : State} {id : Nat} (h : ∀ r, s.region id = some r → r.cls = .lane) :
    s.restoreRegion id = s := by
  unfold State.restoreRegion
  split
  · rename_i r hr
    rw [h r hr]
  · rfl

/-- A VITAL region has its pages restored and is CLEAN at a join completion (R152). -/
theorem State.restoreRegion_of_vital {s : State} {id : Nat} {r : Region} (hr : s.region id = some r)
    (hvital : r.cls = .vital) :
    s.restoreRegion id = (s.restorePages r.pages).setRegion id (some r.restored) := by
  unfold State.restoreRegion Region.restored State.restorePages
  simp only [hr, hvital, if_true]

/-- An id is that of a VITAL region, or of a LANE region or none (R21). -/
theorem State.region_vital_or (s : State) (id : Nat) :
    (∃ r, s.region id = some r ∧ r.cls = .vital) ∨ ∀ r, s.region id = some r → r.cls = .lane := by
  cases hr : s.region id with
  | none => exact .inr fun r h => nomatch h
  | some r =>
    cases hc : r.cls with
    | vital => exact .inl ⟨r, rfl, hc⟩
    | lane => exact .inr fun q h => Option.some.inj h ▸ hc

theorem State.restoreRegion_eq (s : State) (id : Nat) :
    s.restoreRegion id = { s with regions := (s.restoreRegion id).regions, pages := (s.restoreRegion id).pages } := by
  rcases s.region_vital_or id with ⟨r, hr, hvital⟩ | hother
  · rw [State.restoreRegion_of_vital hr hvital, State.restorePages_eq]
    rfl
  · rw [State.restoreRegion_of_other hother]

/-- The region table after one region is restored (R152). -/
theorem State.region_restoreRegion (s : State) (id j : Nat) :
    (s.restoreRegion id).region j = if id = j then (s.region j).map Region.restored else s.region j := by
  rcases s.region_vital_or id with ⟨r, hr, hvital⟩ | hother
  · rw [State.restoreRegion_of_vital hr hvital, State.region_setRegion _ _ _ (State.region_lt hr), State.restorePages_eq]
    split
    · rename_i hid
      rw [← hid, hr]
      rfl
    · rfl
  · rw [State.restoreRegion_of_other hother]
    split
    · rename_i hid
      rw [← hid]
      cases hr : s.region id with
      | none => rfl
      | some r => simp [Region.restored, hother r hr]
    · rfl

/-- The page map after one region is restored (R152). -/
theorem State.page_restoreRegion (s : State) (id page : Nat) :
    (s.restoreRegion id).page page = if s.vitalAt id page then (s.page page).restored else s.page page := by
  rcases s.region_vital_or id with ⟨r, hr, hvital⟩ | hother
  · have hat : s.vitalAt id page = true ↔ page ∈ r.pages := by simp [State.vitalAt, hr, hvital]
    simp only [hat, State.restoreRegion_of_vital hr hvital]
    exact State.page_restorePages r.pages s page
  · have hat : ¬ s.vitalAt id page = true := fun h => by
      obtain ⟨r, hr, hvital, -⟩ := State.vitalAt_iff.mp h
      simp [hother r hr] at hvital
    rw [State.restoreRegion_of_other hother, if_neg hat]

/-- A region restored holds its pages as before (R152). -/
theorem State.vitalAt_restoreRegion (s : State) (k id page : Nat) :
    (s.restoreRegion k).vitalAt id page = s.vitalAt id page := by
  unfold State.vitalAt
  rw [State.region_restoreRegion]
  split
  · cases s.region id <;> simp
  · rfl

/-! ### Every region restored -/

theorem State.restoreRegions_eq (ids : List Nat) : ∀ s : State, ids.foldl State.restoreRegion s = { s with
    regions := (ids.foldl State.restoreRegion s).regions
    pages := (ids.foldl State.restoreRegion s).pages } := by
  induction ids with
  | nil => exact fun s => rfl
  | cons id ids ih =>
    intro s
    rw [List.foldl_cons, ih, s.restoreRegion_eq]

theorem State.restoreRegions_patrol (ids : List Nat) (s : State) : (ids.foldl State.restoreRegion s).patrol = s.patrol := by
  rw [State.restoreRegions_eq]
theorem State.restoreRegions_config (ids : List Nat) (s : State) : (ids.foldl State.restoreRegion s).config = s.config := by
  rw [State.restoreRegions_eq]

theorem State.region_restoreRegions (ids : List Nat) : ∀ (s : State) (j : Nat),
    (ids.foldl State.restoreRegion s).region j = if j ∈ ids then (s.region j).map Region.restored else s.region j := by
  induction ids with
  | nil => exact fun s j => (if_neg List.not_mem_nil).symm
  | cons id ids ih =>
    intro s j
    rw [List.foldl_cons, ih, State.region_restoreRegion]
    by_cases hid : id = j <;> by_cases hids : j ∈ ids <;> simp [hid, hids, Function.comp_def, eq_comm]

theorem State.page_restoreRegions (ids : List Nat) : ∀ (s : State) (page : Nat),
    (ids.foldl State.restoreRegion s).page page =
      if ids.any (s.vitalAt · page) then (s.page page).restored else s.page page := by
  induction ids with
  | nil => exact fun s page => rfl
  | cons id ids ih =>
    intro s page
    simp only [List.foldl_cons, ih, State.vitalAt_restoreRegion, State.page_restoreRegion, List.any_cons]
    by_cases hid : s.vitalAt id page <;> by_cases hids : ids.any (s.vitalAt · page) <;> simp [hid, hids]

/-- The state with the VITAL regions CLEAN and their pages back in ordinary access (R152). -/
def State.vitalRestored (s : State) : State := (List.range 16).foldl State.restoreRegion s

theorem State.vitalRestored_eq (s : State) :
    s.vitalRestored = { s with regions := s.vitalRestored.regions, pages := s.vitalRestored.pages } :=
  State.restoreRegions_eq _ s

theorem State.vitalRestored_patrol (s : State) : s.vitalRestored.patrol = s.patrol := State.restoreRegions_patrol _ s
theorem State.vitalRestored_config (s : State) : s.vitalRestored.config = s.config := State.restoreRegions_config _ s

theorem State.region_vitalRestored {s : State} {id : Nat} {r : Region} (hr : s.region id = some r) :
    s.vitalRestored.region id = some (if r.cls = .vital then { r with state := .clean } else r) := by
  unfold State.vitalRestored
  rw [State.region_restoreRegions, if_pos (List.mem_range.mpr (State.region_lt hr)), hr]
  rfl

theorem State.page_vitalRestored {s : State} {id page : Nat} {r : Region} (hr : s.region id = some r)
    (hvital : r.cls = .vital) (hpage : page ∈ r.pages) : s.vitalRestored.page page = (s.page page).restored := by
  unfold State.vitalRestored
  rw [State.page_restoreRegions, if_pos]
  exact List.any_eq_true.mpr ⟨id, List.mem_range.mpr (State.region_lt hr), State.vitalAt_iff.mpr ⟨r, hr, hvital, hpage⟩⟩

theorem State.page_vitalRestored_other {s : State} {page : Nat}
    (h : ∀ id r, s.region id = some r → r.cls = .vital → page ∉ r.pages) : s.vitalRestored.page page = s.page page := by
  unfold State.vitalRestored
  rw [State.page_restoreRegions, if_neg]
  intro hany
  obtain ⟨id, -, hat⟩ := List.any_eq_true.mp hany
  obtain ⟨r, hr, hvital, hpage⟩ := State.vitalAt_iff.mp hat
  exact h id r hr hvital hpage

/-! ### The join completed -/

/-- What a join completion leaves (R114, R152). -/
theorem State.completeJoin_eq (s : State) (n : Nat) : s.completeJoin n = { s with
    regions := s.vitalRestored.regions
    pages := s.vitalRestored.pages
    patrol := s.vitalRestored.selectIfWaiting.patrol
    vote := ⟨n, .none, none, none, none⟩
    peerU := s.peerU.joined
    peerV := s.peerV.joined
    lane := ⟨some .service, false, s.lane.stopCause, some (s.time + s.config.deadline)⟩
    serve := none
    join := none
    attention := s.attention.raise (.restore .receiver .joined none n) } := by
  have hfold : (List.range 16).foldl State.restoreRegion s = s.vitalRestored := rfl
  have hrest := s.vitalRestored_eq
  unfold State.completeJoin
  simp only [hfold]
  generalize s.vitalRestored = v at hrest ⊢
  rw [State.selectIfWaiting_eq, hrest]
  rfl

/-- A patrol with a pass under way, or at pace 0, stands through a join completion (R58, R59). -/
theorem State.completeJoin_patrol_of_still {s : State} (n : Nat) (h : s.patrol.pass ≠ none ∨ s.config.pace = 0) :
    (s.completeJoin n).patrol = s.patrol := by
  rw [← s.vitalRestored_patrol, ← s.vitalRestored_config] at h
  rw [State.completeJoin_eq, State.selectIfWaiting_of_still h, State.vitalRestored_patrol]

/-- A patrol that waits selects at a join completion, from the regions as it leaves them (R58). -/
theorem State.completeJoin_patrol_of_waiting {s : State} (n : Nat) (hpass : s.patrol.pass = none)
    (hpace : 0 < s.config.pace) : (s.completeJoin n).patrol = s.patrol.selected (s.completeJoin n).eligible := by
  have heligible : (s.completeJoin n).eligible = s.vitalRestored.eligible :=
    State.eligible_congr (by rw [State.completeJoin_eq]) (by rw [State.completeJoin_eq])
  rw [← s.vitalRestored_patrol] at hpass ⊢
  rw [← s.vitalRestored_config] at hpace
  rw [heligible, State.completeJoin_eq, State.selectIfWaiting_of_waiting hpass hpace]

/-! ### The check -/

theorem State.syncPasses_iff {s : State} {j : Join} {n : Nat} {list : Option DigestList} :
    s.syncPasses j n list = true ↔ 1 ≤ n ∧ (∀ p ∈ s.vitalPages, p ∈ j.landed) ∧ j.lockImageTaken = true ∧
      list = some s.closingList := by
  simp [State.syncPasses, setCovered_iff, and_assoc]

/-- The silence timer does not outlive the attempt that fails (R148, R153). -/
theorem State.failAttempt_restartSilence {s : State} {j : Join} {port : LinkPort} (hj : s.join = some j)
    (hcandidate : j.candidate = some port) (reason : RestoreReason) (abort : Option RestoreReason) :
    (s.restartSilence j).failAttempt reason abort = s.failAttempt reason abort := by
  unfold State.failAttempt State.restartSilence
  simp only [hj, hcandidate]
  cases port <;> cases abort <;> rfl

/-- A SYNC-MARK from the donor of a LANDING attempt is put to its check (R151). -/
theorem State.handFrame_syncMark {s : State} {port : LinkPort} {j : Join} (hj : s.join = some j)
    (hphase : j.phase = .landing) (hcandidate : j.candidate = some port) (n : Nat) (list : Option DigestList) :
    s.handFrame port (.syncMark n list) = if s.syncPasses j n list then s.completeJoin n
      else (s.restartSilence j).failAttempt .mismatch (some .mismatch) := by
  have hdonor : j.landsFrom port = true := by simp [Join.landsFrom, Join.asks, hphase, hcandidate]
  show s.syncReceived port n list = _
  unfold State.syncReceived
  simp only [hj, hdonor, if_true]

/-- Settles O53: the check decides between the attempt that fails and the join that completes, and the completion restores
the VITAL regions before its selection. -/
theorem syncMarkCompletesJoin : Obligations.SyncMarkCompletesJoin := by
  intro s port j n list hj hphase hcandidate t passes
  have hmark := State.handFrame_syncMark hj hphase hcandidate n
  have hpasses : s.syncPasses j n (some list) = true ↔ passes := by
    rw [State.syncPasses_iff, Option.some_inj]
  refine ⟨?none, fun hfail => (hmark _).trans (if_neg (mt hpasses.mp hfail)), fun hpass => ?joined⟩
  case none =>
    have hfail : ¬ s.syncPasses j n none = true := fun h => by
      obtain ⟨-, -, -, hlist⟩ := State.syncPasses_iff.mp h
      exact nomatch hlist
    rw [hmark, if_neg hfail, State.failAttempt_restartSilence hj hcandidate]
  case joined =>
    have ht : t = s.completeJoin n := (hmark _).trans (if_pos (hpasses.mpr hpass))
    have hframe := ht.trans (s.completeJoin_eq n)
    have hregion : ∀ id, t.region id = s.vitalRestored.region id := State.region_congr (by rw [hframe])
    have hpage : ∀ page, t.page page = s.vitalRestored.page page := State.page_congr (by rw [hframe])
    have hstill := State.completeJoin_patrol_of_still (s := s) n
    have hwaiting := State.completeJoin_patrol_of_waiting (s := s) n
    rw [← ht] at hstill hwaiting
    clear_value t
    refine ⟨by rw [hframe], by rw [hframe], fun p => ?_, fun id r hr => (hregion id).trans (State.region_vitalRestored hr),
      fun id r page hr hvital hin => ?restored, fun page hout => (hpage page).trans (State.page_vitalRestored_other hout),
      hstill, hwaiting, ?_⟩
    case restored =>
      have hentry := (hpage page).trans (State.page_vitalRestored hr hvital hin)
      exact ⟨fun f hf => by rw [hentry, hf]; rfl, fun f g c p m hmv => by rw [hentry, hmv]; rfl⟩
    · rw [hframe]
      cases p <;> rfl
    · rw [hframe]

end Sys2Proof.Machine
end

section
/-! The end of a serve and the stop of the lane: what each leaves of the links, the peers and the attention controller
(R112, R124 to R126, R144, R158). -/

namespace Sys2Proof.Machine

/-! ### The end of a serve -/

/-- A receiver's link as the early end of its serve leaves it: the bulk frames withdrawn, the JOIN-ABORT queued where one is
sent (R144, R158). -/
def Link.withdrawn (l : Link) (time lane : Nat) (abort : Option RestoreReason) : Link :=
  match abort with
  | some r => ({ l with bulk := [] } : Link).putControl time ⟨lane, .joinAbort r⟩
  | none => { l with bulk := [] }

/-- A receiver's record as the early end of its serve leaves it: no longer JOINING (R144). -/
def PeerRecord.unjoined (p : PeerRecord) : PeerRecord :=
  { p with state := if p.state = .joining then .absent else p.state }

theorem State.endServe_of_idle {s : State} (h : s.serve = none) (reason : RestoreReason) (abort : Option RestoreReason) :
    s.endServe reason abort = s := by
  unfold State.endServe
  rw [h]

/-- A serve that ends early, as one update of each block it touches (R144, R158). -/
theorem State.endServe_of_serve {s : State} {v : Serve} (h : s.serve = some v) (reason : RestoreReason)
    (abort : Option RestoreReason) :
    s.endServe reason abort =
      ((({ s with serve := none } : State).setLink v.receiver
        ((s.link v.receiver).withdrawn s.time s.config.lane abort)).setPeer v.receiver (s.peer v.receiver).unjoined).raise
        (.restore .donor .aborted (some reason) s.vote.lastClosed) := by
  have hpeer : ∀ t : State, (if (t.peer v.receiver).state = .joining then
      t.setPeer v.receiver { t.peer v.receiver with state := .absent } else t) =
      t.setPeer v.receiver (t.peer v.receiver).unjoined := by
    intro t
    unfold PeerRecord.unjoined
    split
    · rfl
    · exact (t.setPeer_peer v.receiver).symm
  unfold State.endServe
  rw [h]
  dsimp only []
  rw [hpeer]
  cases v.receiver <;> cases abort <;> rfl

/-- The serve is to the peer at this port, spelled for a serve record that is known. -/
theorem State.serving_of_serve {s : State} {v : Serve} (h : s.serve = some v) (port : LinkPort) :
    s.serving port = (v.receiver == port) := by
  unfold State.serving
  rw [h]

theorem State.serving_of_idle {s : State} (h : s.serve = none) (port : LinkPort) : s.serving port = false := by
  unfold State.serving
  rw [h]

theorem State.endServe_link (s : State) (reason : RestoreReason) (abort : Option RestoreReason) (port : LinkPort) :
    (s.endServe reason abort).link port =
      if s.serving port = true then (s.link port).withdrawn s.time s.config.lane abort else s.link port := by
  cases h : s.serve with
  | none => rw [State.endServe_of_idle h, State.serving_of_idle h]; rfl
  | some v =>
    rw [State.endServe_of_serve h, State.serving_of_serve h]
    cases v.receiver <;> cases port <;> rfl

theorem State.endServe_peer (s : State) (reason : RestoreReason) (abort : Option RestoreReason) (port : LinkPort) :
    (s.endServe reason abort).peer port = if s.serving port = true then (s.peer port).unjoined else s.peer port := by
  cases h : s.serve with
  | none => rw [State.endServe_of_idle h, State.serving_of_idle h]; rfl
  | some v =>
    rw [State.endServe_of_serve h, State.serving_of_serve h]
    cases v.receiver <;> cases port <;> rfl

theorem State.endServe_attention (s : State) (reason : RestoreReason) (abort : Option RestoreReason) :
    (s.endServe reason abort).attention = match s.serve with
      | some _ => s.attention.raise (.restore .donor .aborted (some reason) s.vote.lastClosed)
      | none => s.attention := by
  cases h : s.serve with
  | none => rw [State.endServe_of_idle h]
  | some v =>
    rw [State.endServe_of_serve h]
    cases v.receiver <;> rfl

/-! ### The lane stopped -/

theorem State.leaveService_vote (s : State) :
    s.leaveService.vote = if s.vote.state = .opened then { s.vote with state := .none, window := none } else s.vote := by
  unfold State.leaveService
  cases h : s.vote.state <;> rfl

theorem State.leaveService_peer (s : State) (port : LinkPort) :
    s.leaveService.peer port =
      { s.peer port with held := if s.vote.state = .opened then none else (s.peer port).held } := by
  unfold State.leaveService
  cases h : s.vote.state <;> cases port <;> rfl

/-- The state that an entry to STOPPED hands to the end of its serve: no lane mode but STOPPED, no open vote (R112, R125). -/
def State.stopping (s : State) (cause : StopCause) : State :=
  State.leaveService { s with lane := ⟨some .stopped, false, some cause, none⟩ }

theorem State.stopping_eq (s : State) (cause : StopCause) :
    s.stopping cause = { s with
      lane := ⟨some .stopped, false, some cause, none⟩
      vote := (s.stopping cause).vote
      peerU := (s.stopping cause).peerU
      peerV := (s.stopping cause).peerV } := State.leaveService_eq _

theorem State.stopping_vote (s : State) (cause : StopCause) :
    (s.stopping cause).vote = if s.vote.state = .opened then { s.vote with state := .none, window := none } else s.vote :=
  State.leaveService_vote _

theorem State.stopping_peer (s : State) (cause : StopCause) (port : LinkPort) :
    (s.stopping cause).peer port =
      { s.peer port with held := if s.vote.state = .opened then none else (s.peer port).held } := by
  unfold State.stopping
  rw [State.leaveService_peer]
  cases port <;> rfl

/-- The entry to STOPPED leaves on the vote unit, the peers and the links what the end of the serve leaves (R125). -/
theorem State.enterStopped_blocks (s : State) (cause : StopCause) (region : Nat) :
    (s.enterStopped cause region).vote = (s.stopping cause).vote ∧
      (∀ port, (s.enterStopped cause region).peer port =
        ((s.stopping cause).endServe .donorLeft (some .donorLeft)).peer port) ∧
      ∀ port, (s.enterStopped cause region).link port =
        ((s.stopping cause).endServe .donorLeft (some .donorLeft)).link port := by
  have hvote : ((s.stopping cause).endServe .donorLeft (some .donorLeft)).vote = (s.stopping cause).vote := by
    rw [State.endServe_eq]
  rw [← hvote]
  unfold State.enterStopped
  dsimp only []
  split <;> exact ⟨rfl, fun port => by cases port <;> rfl, fun port => by cases port <;> rfl⟩

theorem State.enterStopped_vote (s : State) (cause : StopCause) (region : Nat) :
    (s.enterStopped cause region).vote =
      if s.vote.state = .opened then { s.vote with state := .none, window := none } else s.vote :=
  (s.enterStopped_blocks cause region).1.trans (s.stopping_vote cause)

theorem State.stopping_serving (s : State) (cause : StopCause) (port : LinkPort) :
    (s.stopping cause).serving port = s.serving port := by
  unfold State.serving
  rw [State.stopping_eq]

theorem State.stopping_link (s : State) (cause : StopCause) (port : LinkPort) :
    (s.stopping cause).link port = s.link port := by
  rw [State.stopping_eq]
  cases port <;> rfl

theorem State.enterStopped_peer (s : State) (cause : StopCause) (region : Nat) (port : LinkPort) :
    (s.enterStopped cause region).peer port = { s.peer port with
      held := if s.vote.state = .opened then none else (s.peer port).held
      state := if s.serving port = true ∧ (s.peer port).state = .joining then .absent else (s.peer port).state } := by
  rw [(s.enterStopped_blocks cause region).2.1, State.endServe_peer, State.stopping_serving, State.stopping_peer]
  cases s.serving port with
  | true => simp only [PeerRecord.unjoined, if_true, true_and]
  | false => simp only [Bool.false_eq_true, if_false, false_and]

theorem State.enterStopped_link (s : State) (cause : StopCause) (region : Nat) (port : LinkPort) :
    (s.enterStopped cause region).link port =
      if s.serving port = true then (s.link port).withdrawn s.time s.config.lane (some .donorLeft) else s.link port := by
  have htime : (s.stopping cause).time = s.time := by rw [State.stopping_eq]
  have hconfig : (s.stopping cause).config = s.config := by rw [State.stopping_eq]
  rw [(s.enterStopped_blocks cause region).2.2, State.endServe_link, State.stopping_serving, State.stopping_link, htime,
    hconfig]

/-- The raises of an entry to STOPPED, in their order: RESTORE for a serve that ends, VOTE, and STORE for cause SILENT
(R125, R126, R144). -/
theorem State.enterStopped_attention (s : State) (cause : StopCause) (region : Nat) :
    (s.enterStopped cause region).attention =
      let ended := match s.serve with
        | some _ => s.attention.raise (.restore .donor .aborted (some .donorLeft) s.vote.lastClosed)
        | none => s.attention
      let told := ended.raise (s.stopDetail cause)
      if cause = .silent then told.raise (.store none region .vital .patrol) else told := by
  have hvote : (s.stopping cause).vote.lastVerdict = s.vote.lastVerdict ∧
      (s.stopping cause).vote.lastClosed = s.vote.lastClosed := by
    rw [State.stopping_vote]
    split <;> exact ⟨rfl, rfl⟩
  obtain ⟨hverdict, hclosed⟩ := hvote
  have hended : ((s.stopping cause).endServe .donorLeft (some .donorLeft)).attention = match s.serve with
      | some _ => s.attention.raise (.restore .donor .aborted (some .donorLeft) s.vote.lastClosed)
      | none => s.attention := by
    rw [State.endServe_attention, hclosed, State.stopping_eq]
  have hdetail : ((s.stopping cause).endServe .donorLeft (some .donorLeft)).stopDetail cause = s.stopDetail cause := by
    rw [State.endServe_eq]
    unfold State.stopDetail
    dsimp only []
    rw [hverdict, hclosed]
  have hraises : (s.enterStopped cause region).attention =
      let t := (s.stopping cause).endServe .donorLeft (some .donorLeft)
      let told := t.attention.raise (t.stopDetail cause)
      if cause = .silent then told.raise (.store none region .vital .patrol) else told := by
    unfold State.enterStopped
    dsimp only []
    split <;> rfl
  rw [hraises]
  dsimp only []
  rw [hended, hdetail]

theorem State.stopRequest_of_service {s : State} (h : s.lane.mode = some .service) {cause : StopCause}
    (hcause : cause ≠ .joinFailed) (region : Nat) : s.stopRequest cause region = s.enterStopped cause region := by
  unfold State.stopRequest
  rw [h]
  exact if_neg hcause

theorem State.stopRequest_of_joining {s : State} (h : s.lane.mode = some .joining) (region : Nat) :
    s.stopRequest .joinFailed region = s.enterStopped .joinFailed region := by
  unfold State.stopRequest
  rw [h]
  rfl

/-- The mode and the cause for which a stop request stops the lane (R124). -/
def State.stops (s : State) (cause : StopCause) : Prop :=
  s.lane.mode = some .service ∧ cause ≠ .joinFailed ∨ s.lane.mode = some .joining ∧ cause = .joinFailed

theorem State.stopRequest_of_stops {s : State} {cause : StopCause} (h : s.stops cause) (region : Nat) :
    s.stopRequest cause region = s.enterStopped cause region := by
  obtain ⟨hmode, hcause⟩ | ⟨hmode, rfl⟩ := h
  · exact State.stopRequest_of_service hmode hcause region
  · exact State.stopRequest_of_joining hmode region

theorem State.stopRequest_of_not_stops {s : State} {cause : StopCause} (h : ¬ s.stops cause) (region : Nat) :
    s.stopRequest cause region = s := by
  unfold State.stopRequest
  split
  · rename_i hmode
    exact if_pos (by_contra fun hc => h (.inl ⟨hmode, hc⟩))
  · rename_i hmode
    exact if_neg fun hc => h (.inr ⟨hmode, hc⟩)
  all_goals rfl

/-- Settles O17: the serve that ends and the lane that stops, each by what it leaves of every block it touches. -/
theorem stopRequestByMode : Obligations.StopRequestByMode := by
  refine ⟨fun s reason abort h => State.endServe_of_idle h reason abort, fun s reason abort v h => ?_,
    fun s cause region => ⟨fun h => State.stopRequest_of_not_stops h region, fun h => ?_⟩⟩
  · have hother : (v.receiver == otherPort v.receiver) = false := by cases v.receiver <;> rfl
    have hattention := s.endServe_attention reason abort
    rw [h] at hattention
    dsimp only [] at hattention
    refine ⟨_, rfl, ?_, ?_, ?_, ?_, ?_⟩
    · rw [State.endServe_link, State.serving_of_serve h, beq_self_eq_true, if_pos rfl]
      cases abort <;> rfl
    · rw [State.endServe_link, State.serving_of_serve h, hother]
      rfl
    · rw [State.endServe_peer, State.serving_of_serve h, beq_self_eq_true, if_pos rfl]
      rfl
    · rw [State.endServe_peer, State.serving_of_serve h, hother]
      rfl
    · rw [← hattention]
      exact s.endServe_eq reason abort
  · have hfields := s.enterStopped_eq cause region
    have hvote := s.enterStopped_vote cause region
    refine ⟨_, State.stopRequest_of_stops h region, ?_, ?_, ?_, ?_, fun ho => hvote.trans (if_pos ho),
      fun ho => hvote.trans (if_neg ho), s.enterStopped_peer cause region, s.enterStopped_link cause region, ?_, ?_⟩
    · rw [hfields]
    · rw [hfields]
    · rw [hfields]
    · rw [hfields]
    · rw [State.enterStopped_attention]
      unfold State.stopDetail
      dsimp only []
      cases s.vote.lastVerdict <;> rfl
    · generalize s.enterStopped cause region = t at hfields ⊢
      have hlane : t.lane = ⟨some .stopped, false, some cause, none⟩ := by rw [hfields]
      have hhealth : t.health = ⟨none, false⟩ := by rw [hfields]
      rw [hlane, hhealth]
      exact hfields

end Sys2Proof.Machine
end

section
/-! What the laws of the lane, of the lock table and of the serve record look at, and the relation of two states that carries
the three laws from the one to the other (R72, R113, R121, R122, R129, R133, R134). -/

namespace Sys2Proof.Machine

/-! ### The view of a state that the three laws have -/

/-- A region record without its seed, its live digest and its state: its pages and its class (R21). -/
def Region.layout (r : Region) : Region := { r with seed := 0, live := 0, state := .clean }

/-- What the laws of the lane, of the lock table and of the serve record look at. Timers, the sweep, the waves and the request
in service count as present or absent alone; everything else stands as at reset. -/
def State.lawView (s : State) : State := { State.reset with
  sweep := s.sweep.map fun _ => 0
  regions := s.regions.map (Option.map Region.layout)
  locks := s.locks
  vote := ⟨0, s.vote.state, none, s.vote.window.map fun _ => 0, none⟩
  lane := ⟨s.lane.mode, s.lane.confirmed, none, s.lane.deadline.map fun _ => 0⟩
  health := ⟨s.health.wave.map fun _ => ⟨.aHigh, 0, 0⟩, false⟩
  serve := s.serve
  join := s.join.map fun _ => Join.begin
  opening := s.opening.map fun _ => ⟨.cold, .mapping, 0⟩
  restartDue := s.restartDue
  port := ⟨s.port.service.map fun v => ⟨v.kind, 0, none⟩, [], none, [], []⟩
  config := { LaneConfig.default with finalLimit := s.config.finalLimit } }

theorem State.region_lawView (s : State) (id : Nat) : s.lawView.region id = (s.region id).map Region.layout := by
  simp only [State.region, State.lawView, tableGet, Vector.getElem?_map]
  cases s.regions[id]? <;> rfl

/-- The class of the region of a page is found in the pages and classes of the regions alone (R21). -/
theorem State.classOf_eq (s : State) (page : Nat) :
    s.classOf page = (List.range 16).findSome? fun id => (s.region id).bind fun r =>
      if r.first ≤ page ∧ page < r.first + r.count then some r.cls else none := by
  unfold State.classOf State.regionOf
  rw [List.map_findSome?]
  congr 1
  funext id
  dsimp only [Function.comp]
  cases s.region id with
  | none => rfl
  | some r =>
    dsimp only [Option.bind]
    split <;> rfl

theorem State.isVital_lawView (s : State) (page : Nat) : s.lawView.isVital page = s.isVital page := by
  have hclass : s.lawView.classOf page = s.classOf page := by
    simp only [State.classOf_eq, State.region_lawView, Option.bind_map]
    rfl
  unfold State.isVital
  rw [hclass]

/-- The class of a page is the same where the regions have the same pages and classes (R21). -/
theorem State.isVital_congr {s t : State} (h : t.lawView.regions = s.lawView.regions) (page : Nat) :
    t.isVital page = s.isVital page := by
  rw [← t.isVital_lawView, ← s.isVital_lawView]
  unfold State.isVital State.classOf
  rw [State.regionOf_congr h]

theorem State.inService_lawView (s : State) : s.lawView.inService = s.inService := rfl
theorem State.isJoining_lawView (s : State) : s.lawView.isJoining = s.isJoining := rfl
theorem State.isOffline_lawView (s : State) : s.lawView.isOffline = s.isOffline := rfl

theorem State.sweepLaw_lawView (s : State) : s.lawView.SweepLaw ↔ s.SweepLaw := by
  have hregions : (∀ id, s.lawView.region id = none) ↔ ∀ id, s.region id = none := by
    simp only [State.region_lawView, Option.map_eq_none_iff]
  have hservice : (∀ v, s.lawView.port.service = some v → v.kind = 1) ↔ ∀ v, s.port.service = some v → v.kind = 1 := by
    simp [State.lawView]
  unfold State.SweepLaw
  rw [hregions, hservice]
  simp [State.lawView]

theorem State.laneLaw_lawView (s : State) : s.lawView.LaneLaw ↔ s.LaneLaw := by
  unfold State.LaneLaw
  rw [State.sweepLaw_lawView, State.inService_lawView, State.isJoining_lawView, State.isOffline_lawView]
  simp [State.lawView]

theorem State.lockLaw_lawView (s : State) : s.lawView.LockLaw ↔ s.LockLaw := by
  have htimer : ∀ t, s.lawView.TimerLaw t ↔ s.TimerLaw t := fun t => by
    simp only [State.TimerLaw, State.ArmedLaw, State.isVital_lawView]
  unfold State.LockLaw
  simp only [htimer]
  rfl

/-- The laws of one serve record (R134). -/
def State.RecordLaw (s : State) (v : Serve) : Prop :=
  v.dirty.Pairwise (· < ·) ∧ v.finalSet.Pairwise (· < ·) ∧
    (∀ p ∈ v.dirty, s.isVital p = true) ∧ (∀ p ∈ v.finalSet, s.isVital p = true) ∧
    (v.phase = .final → v.dirty = [] ∧ v.pendingCycle = none) ∧
    (v.phase = .bulk → v.pendingCycle = none → v.finalSet = [] ∧ v.slots = []) ∧
    (v.phase = .bulk → v.pendingCycle.isSome → v.inSend = none) ∧
    (v.slots.map Slot.page).Nodup ∧ (∀ x ∈ v.slots, x.page ∈ v.finalSet) ∧ v.slots.length ≤ v.finalSet.length ∧
    v.finalSet.length ≤ s.config.finalLimit ∧ v.convergence ≤ 32 ∧
    ∀ x, v.inSend = some x → s.isVital x.page = true ∧ x.next < 256 ∧
      (v.phase = .final → x.page ∈ v.finalSet ∧ x.page ∉ v.fullySent)

theorem State.serveLaw_iff (s : State) : s.ServeLaw ↔ ∀ v, s.serve = some v → s.RecordLaw v := Iff.rfl

theorem State.recordLaw_congr {s t : State} (hvital : ∀ p, t.isVital p = s.isVital p)
    (hlimit : t.config.finalLimit = s.config.finalLimit) (v : Serve) : t.RecordLaw v ↔ s.RecordLaw v := by
  simp only [State.RecordLaw, hvital, hlimit]

theorem State.serveLaw_lawView (s : State) : s.lawView.ServeLaw ↔ s.ServeLaw := by
  simp only [State.serveLaw_iff, State.recordLaw_congr s.isVital_lawView rfl]
  rfl

/-! ### The laws carried over -/

/-- The laws of the lane, of the lock table and of the serve record hold of `t` where they hold of `s`. -/
structure State.LawsKept (s t : State) : Prop where
  lane : s.LaneLaw → t.LaneLaw
  lock : s.LaneLaw → s.LockLaw → t.LockLaw
  serve : s.LaneLaw → s.ServeLaw → t.ServeLaw

namespace State.LawsKept

theorem trans {s t u : State} (h : s.LawsKept t) (h' : t.LawsKept u) : s.LawsKept u where
  lane hs := h'.lane (h.lane hs)
  lock hs hl := h'.lock (h.lane hs) (h.lock hs hl)
  serve hs hv := h'.serve (h.lane hs) (h.serve hs hv)

/-- What the laws of the lane say of the earlier state may be used. -/
theorem of_law {s t : State} (h : s.LaneLaw → s.LawsKept t) : s.LawsKept t where
  lane hs := (h hs).lane hs
  lock hs := (h hs).lock hs
  serve hs := (h hs).serve hs

/-- Two states with the same view meet the same laws. -/
theorem of_view {s t : State} (h : t.lawView = s.lawView) : s.LawsKept t where
  lane hs := by rwa [← State.laneLaw_lawView, h, State.laneLaw_lawView]
  lock _ hl := by rwa [← State.lockLaw_lawView, h, State.lockLaw_lawView]
  serve _ hv := by rwa [← State.serveLaw_lawView, h, State.serveLaw_lawView]

theorem refl (s : State) : s.LawsKept s := .of_view rfl

/-- The later state may be given by an equation. -/
theorem of_eq {s t u : State} (h : t = u) (hu : u.lawView = s.lawView) : s.LawsKept t := .of_view (h ▸ hu)

/-- A change that leaves the regions and the lock table, enters OFFLINE from the sweep at most, and drops the serve record or
leaves it with its limit keeps the laws if it keeps those of the lane. -/
theorem of_fields {s t : State} (hlane : s.LaneLaw → t.LaneLaw)
    (hmode : s.LaneLaw → t.lane.mode = none ∨ t.lane.mode = some .offline → s.lane.mode = none ∨ s.lane.mode = some .offline)
    (hserve : t.serve = none ∨ t.serve = s.serve ∧ t.config.finalLimit = s.config.finalLimit)
    (hregions : t.lawView.regions = s.lawView.regions := by rfl) (hlocks : t.locks = s.locks := by rfl) :
    s.LawsKept t where
  lane := hlane
  lock hs hl := by
    obtain ⟨hrecords, hidle⟩ := hl
    have hlock : ∀ k, t.lock k = s.lock k := fun k => by simp only [State.lock, hlocks]
    have htimer : ∀ x, t.TimerLaw x ↔ s.TimerLaw x := fun x => by
      simp only [State.TimerLaw, State.ArmedLaw, State.isVital_congr hregions]
    refine ⟨fun k => ?_, fun hm k => ?_⟩
    · rw [hlock, htimer]; exact hrecords k
    · rw [hlock]; exact hidle (hmode hs hm) k
  serve _ hv := by
    intro v hs
    obtain he | ⟨he, hlimit⟩ := hserve
    · rw [he] at hs; cases hs
    · exact (State.recordLaw_congr (State.isVital_congr hregions) hlimit v).mpr (hv v (he ▸ hs))

end State.LawsKept

end Sys2Proof.Machine
end

section
/-! Operations of the part that leave everything the three laws look at: answers, links, peers, attention, the patrol's walk,
the words of the store and the pages. -/

namespace Sys2Proof.Machine
namespace State

variable (s : State)

/-! ### The port, the links and the peers -/

/-- The port counts by the kind of its request in service alone. -/
theorem lawView_port {p : HostPort} (h : p.service.map InService.kind = s.port.service.map InService.kind) :
    ({ s with port := p } : State).lawView = s.lawView := by
  have hservice : ∀ o : Option InService,
      o.map (fun v => (⟨v.kind, 0, none⟩ : InService)) = (o.map InService.kind).map fun k => ⟨k, 0, none⟩ := fun o => by
    rw [Option.map_map]; rfl
  unfold State.lawView
  dsimp only []
  rw [hservice p.service, h, ← hservice]

theorem lawView_raise (d : Detail) : (s.raise d).lawView = s.lawView := rfl
theorem lawView_setHostRx (rx : List Byte) : (s.setHostRx rx).lawView = s.lawView := rfl
theorem lawView_owe (kind tag : Nat) (o : ReplyOutcome) (r : PortReason) : (s.owe kind tag o r).lawView = s.lawView := rfl

theorem lawView_takeUp : s.takeUp.lawView = s.lawView :=
  s.lawView_port (by dsimp only []; rw [Option.map_map]; rfl)

theorem lawView_answerNow (kind tag : Nat) (o : ReplyOutcome) : (s.answerNow kind tag o).lawView = s.lawView :=
  s.lawView_port (by rw [HostPort.push_service])

theorem lawView_reply (o : ReplyOutcome) (bs : List Byte) : (s.reply o bs).lawView = s.lawView := by
  unfold reply
  split
  · exact s.lawView_port (by rw [HostPort.push_service])
  · rfl

theorem lawView_badFrame : s.badFrame.lawView = s.lawView := by
  unfold badFrame
  split
  · exact s.lawView_owe _ _ _ _
  · exact (lawView_answerNow _ _ _ _).trans (s.lawView_raise _)

theorem lawView_setLink (port : LinkPort) (l : Link) : (s.setLink port l).lawView = s.lawView := by cases port <;> rfl
theorem lawView_setPeer (port : LinkPort) (p : PeerRecord) : (s.setPeer port p).lawView = s.lawView := by cases port <;> rfl
theorem lawView_putControl (port : LinkPort) (b : LinkBody) : (s.putControl port b).lawView = s.lawView :=
  s.lawView_setLink _ _
theorem lawView_putBulk (port : LinkPort) (b : LinkBody) : (s.putBulk port b).lawView = s.lawView := s.lawView_setLink _ _
theorem lawView_checkFail (port : LinkPort) : (s.checkFail port).lawView = s.lawView := s.lawView_setLink _ _

theorem lawView_heardLink (port : LinkPort) : (s.heardLink port).lawView = s.lawView := by
  unfold heardLink
  dsimp only []
  split
  · exact s.lawView_setLink _ _
  · exact (lawView_raise _ _).trans (s.lawView_setLink _ _)

theorem lawView_countMiss (port : LinkPort) : (s.countMiss port).lawView = s.lawView := by rw [countMiss_eq]; rfl

/-! ### The patrol's walk -/

theorem lawView_selectPass : s.selectPass.lawView = s.lawView := by rw [selectPass_eq]; rfl
theorem lawView_endPassOn (id : Nat) : (s.endPassOn id).lawView = s.lawView := by rw [endPassOn_eq]; rfl
theorem lawView_restartPassOn (id : Nat) : (s.restartPassOn id).lawView = s.lawView := by rw [restartPassOn_eq]; rfl

theorem lawView_selectIfWaiting : s.selectIfWaiting.lawView = s.lawView := by
  unfold selectIfWaiting
  split
  · exact s.lawView_selectPass
  · rfl

/-! ### The regions -/

variable {s} in
/-- A region record that keeps its pages and class (R21). -/
theorem lawView_setRegion {id : Nat} {r q : Region} (hq : s.region id = some q) (h : r.layout = q.layout) :
    (s.setRegion id (some r)).lawView = s.lawView := by
  have hid : id < 16 := region_lt hq
  have hregions : (tableSet s.regions id (some r)).map (Option.map Region.layout) =
      s.regions.map (Option.map Region.layout) := by
    ext1 j hj
    simp only [tableSet, Vector.getElem_map, Vector.getElem_setIfInBounds]
    split
    · rename_i he
      subst he
      have hget : s.regions[id] = some q := by simpa [State.region, tableGet, hid] using hq
      rw [hget, Option.map_some, Option.map_some, h]
    · rfl
  unfold State.lawView
  rw [setRegion_regions, hregions]
  rfl

theorem lawView_handOn (page offset : Nat) (v v' : Word) : (s.handOn page offset v v').lawView = s.lawView := by
  unfold handOn
  split
  · rfl
  · rename_i hof
    exact lawView_setRegion (regionOf_some hof).1 rfl

/-! ### Words and pages -/

theorem lawView_storeWord (page offset : Nat) (v : Word) : (s.storeWord page offset v).lawView = s.lawView := by
  unfold storeWord
  dsimp only []
  repeat' split
  all_goals rfl

theorem lawView_writeWord (page offset : Nat) (v : Word) : (s.writeWord page offset v).lawView = s.lawView := by
  unfold writeWord
  split
  · exact (lawView_handOn _ _ _ _ _).trans (s.lawView_storeWord _ _ _)
  · rfl

theorem lawView_writeRun (page : Nat) (ws : List Word) : ∀ (s : State) (offset : Nat),
    (s.writeRun page offset ws).lawView = s.lawView := by
  induction ws with
  | nil => exact fun _ _ => rfl
  | cons w ws ih => exact fun s offset => (ih _ _).trans (s.lawView_writeWord _ _ _)

theorem lawView_poisonWord (page offset : Nat) (src : StoreSource) : (s.poisonWord page offset src).lawView = s.lawView := by
  rw [poisonWord_eq]; rfl

theorem lawView_reportCorrection (frame count : Nat) : (s.reportCorrection frame count).lawView = s.lawView := by
  rw [reportCorrection_eq]; rfl

theorem lawView_abandonMove (page : Nat) : (s.abandonMove page).lawView = s.lawView := by rw [abandonMove_eq]; rfl

theorem lawView_unmapSettled (page : Nat) : (s.unmapSettled page).lawView = s.lawView := by
  unfold unmapSettled
  split
  · rw [freeFrame_eq]; rfl
  · rfl

theorem lawView_unmapPage (page : Nat) : (s.unmapPage page).lawView = s.lawView := by
  unfold unmapPage
  split
  · exact (lawView_unmapSettled _ _).trans (s.lawView_abandonMove _)
  all_goals exact s.lawView_unmapSettled _

theorem lawView_mapPage (kind : OpenKind) (cls : RegionClass) (page : Nat) :
    (mapPage kind cls s page).lawView = s.lawView := by
  unfold mapPage
  split <;> rfl

/-- A fold of an operation that leaves what the laws look at leaves it. -/
theorem lawView_foldl {α β : Type} (π : β → State) {f : β → α → β} (hf : ∀ x a, (π (f x a)).lawView = (π x).lawView)
    (l : List α) : ∀ x, (π (l.foldl f x)).lawView = (π x).lawView := by
  induction l with
  | nil => exact fun _ => rfl
  | cons a l ih => exact fun x => (ih _).trans (hf x a)

theorem lawView_mapAll (kind : OpenKind) : (s.mapAll kind).lawView = s.lawView := by
  refine lawView_foldl (fun s => s) (fun s _ => ?_) _ s
  unfold mapRegion
  split
  · exact lawView_foldl (fun s => s) (fun s p => s.lawView_mapPage kind _ p) _ s
  · rfl

theorem lawView_adoptWord (page offset : Nat) (x : State × AdoptCount) :
    (adoptWord page x offset).1.lawView = x.1.lawView := by
  unfold adoptWord
  dsimp only []
  repeat' split
  all_goals rfl

variable {s} in
/-- ADOPT sets the live digest and the state of its region (R51). -/
theorem lawView_adoptRegion {id : Nat} {r : Region} (hr : s.region id = some r) :
    (s.adoptRegion id r).1.lawView = s.lawView := by
  have hpages : (r.pages.foldl adoptPage (s, ⟨0, 0⟩)).1.lawView = s.lawView :=
    lawView_foldl Prod.fst (fun x p => lawView_foldl Prod.fst (fun x o => lawView_adoptWord p o x) _ x) _ _
  unfold adoptRegion
  generalize r.pages.foldl adoptPage (s, ⟨0, 0⟩) = x at hpages ⊢
  have hlayout := x.1.region_lawView id
  rw [hpages, s.region_lawView, hr, Option.map_some] at hlayout
  obtain ⟨q, hq, he⟩ := Option.map_eq_some_iff.mp hlayout.symm
  refine (lawView_restartPassOn _ _).trans ((lawView_setRegion hq ?_).trans hpages)
  exact he.symm

/-! ### The settings of an OPEN and of a join completion -/

theorem lawView_markPages (f : PageEntry → PageEntry) (pages : List Nat) :
    (pages.foldl (fun s p => s.setPage p (f (s.page p))) s).lawView = s.lawView :=
  lawView_foldl (fun s => s) (fun s p => (rfl : (s.setPage p (f (s.page p))).lawView = s.lawView)) _ s

variable {s} in
theorem lawView_settleRegion {id : Nat} {r : Region} (hr : s.region id = some r) (st : RegionState) :
    (s.settleRegion id r st).lawView = s.lawView := by
  have hset : ((s.setRegion id (some { r with state := st })).endPassOn id).lawView = s.lawView :=
    (lawView_endPassOn _ _).trans (lawView_setRegion hr rfl)
  unfold settleRegion
  dsimp only []
  split
  · exact (lawView_selectIfWaiting _).trans hset
  · exact hset

theorem lawView_openRegion (kind : OpenKind) (before : Nat → Bool) (id : Nat) :
    (openRegion kind before s id).lawView = s.lawView := by
  unfold openRegion
  split
  · rfl
  · rename_i r hr
    split
    · refine (lawView_settleRegion ?_ _).trans (s.lawView_markPages (PageEntry.opened kind) r.pages)
      exact (region_congr (markPages_regions _ _ s) id).trans hr
    · split
      · rfl
      · exact lawView_settleRegion hr _

theorem lawView_restoreRegion (id : Nat) : (s.restoreRegion id).lawView = s.lawView := by
  unfold restoreRegion
  split
  · rename_i r hr
    split
    · exact (lawView_setRegion (r := { r with state := .clean })
        ((region_congr (markPages_regions _ _ s) id).trans hr) rfl).trans (s.lawView_markPages PageEntry.restored r.pages)
    · rfl
  · rfl

end State
end Sys2Proof.Machine
end

section
/-! The lane, the vote, the serve and the join as operations open and close them, and the correcting reads, which can stop the
lane: each keeps the laws (R8, R9, R112, R113, R121 to R126, R133, R144). -/

namespace Sys2Proof.Machine

/-! ### What the laws of the lane say of a mode -/

theorem State.inService_iff {s : State} : s.inService = true ↔ s.lane.mode = some .service := by simp [State.inService]
theorem State.isJoining_iff {s : State} : s.isJoining = true ↔ s.lane.mode = some .joining := by simp [State.isJoining]
theorem State.isOffline_iff {s : State} : s.isOffline = true ↔ s.lane.mode = some .offline := by simp [State.isOffline]

namespace State.LaneLaw

variable {s : State} (h : s.LaneLaw)
include h

theorem sweep_none (hmode : s.lane.mode ≠ none) : s.sweep = none := by
  obtain ⟨-, -, -, -, -, -, -, -, hsweep⟩ := h
  by_contra hs
  exact hmode (hsweep (Option.isSome_iff_ne_none.mpr hs)).1

theorem sweep_none_of_due (hdue : s.restartDue = true) : s.sweep = none := by
  obtain ⟨-, -, -, -, -, -, -, -, hsweep⟩ := h
  by_contra hs
  rw [(hsweep (Option.isSome_iff_ne_none.mpr hs)).2.1] at hdue
  cases hdue

theorem mode_of_serve {v : Serve} (hv : s.serve = some v) : s.lane.mode = some .service := by
  obtain ⟨-, -, -, -, -, hserve, -, -, -⟩ := h
  exact State.inService_iff.mp (hserve (by rw [hv]; rfl))

theorem mode_of_join {j : Join} (hj : s.join = some j) : s.lane.mode = some .joining := by
  obtain ⟨-, -, -, -, -, -, hjoin, -, -⟩ := h
  exact State.isJoining_iff.mp (hjoin (by rw [hj]; rfl))

theorem mode_of_opening {o : Opening} (ho : s.opening = some o) :
    s.lane.mode = some .offline ∨ s.lane.mode = some .stopped := by
  obtain ⟨-, -, -, -, -, -, -, hopen, -⟩ := h
  exact (hopen (by rw [ho]; rfl)).imp_left State.isOffline_iff.mp

theorem mode_of_opened (ho : s.vote.state = .opened) : s.lane.mode = some .service := by
  obtain ⟨-, -, -, hvote, -, -, -, -, -⟩ := h
  exact State.inService_iff.mp (hvote ho)

theorem mode_of_window {w : Nat} (hw : s.vote.window = some w) : s.lane.mode = some .service := by
  have ⟨_, _, _, _, hwindow, _, _, _, _⟩ := h
  exact h.mode_of_opened (hwindow (by rw [hw]; rfl))

theorem serve_none (hmode : s.lane.mode ≠ some .service) : s.serve = none := by
  cases hv : s.serve with
  | none => rfl
  | some v => exact absurd (h.mode_of_serve hv) hmode

theorem opening_none (hmode : s.lane.mode = some .service ∨ s.lane.mode = some .joining) : s.opening = none := by
  cases ho : s.opening with
  | none => rfl
  | some o => obtain hm | hm := hmode <;> obtain ho | ho := h.mode_of_opening ho <;> simp [hm] at ho

/-- Outside SERVICE nothing of SERVICE runs (R113, R121, R122, R129, R133). -/
theorem outside (hmode : s.lane.mode ≠ some .service) : s.health.wave = none ∧ s.lane.confirmed = false ∧
    s.lane.deadline = none ∧ s.vote.state ≠ .opened ∧ s.vote.window = none := by
  have hin : s.inService = false := by simpa [State.inService] using hmode
  obtain ⟨hwave, hconfirmed, hdeadline, hvote, hwindow, -, -, -, -⟩ := h
  rw [hin] at hwave hconfirmed hdeadline hvote
  have hopened : s.vote.state ≠ .opened := fun ho => by cases hvote ho
  refine ⟨?_, ?_, ?_, hopened, ?_⟩
  · simpa using hwave
  · simpa using hconfirmed
  · simpa using hdeadline
  · cases hw : s.vote.window with
    | none => rfl
    | some w => exact absurd (hwindow (by rw [hw]; rfl)) hopened

end State.LaneLaw

namespace State

variable (s : State)

/-! ### Serves, votes and joins -/

theorem lawsKept_dropServe : s.LawsKept { s with serve := none } := by
  refine .of_fields (fun h => ?_) (fun _ => id) (.inl rfl)
  obtain ⟨hwave, hconfirmed, hdeadline, hvote, hwindow, -, hjoin, hopen, hsweep⟩ := h
  exact ⟨hwave, hconfirmed, hdeadline, hvote, hwindow, by simp, hjoin, hopen, hsweep⟩

theorem lawsKept_endServe (r : RestoreReason) (a : Option RestoreReason) : s.LawsKept (s.endServe r a) := by
  cases h : s.serve with
  | none => rw [endServe_of_idle h]; exact .refl s
  | some v =>
    rw [endServe_of_serve h]
    exact s.lawsKept_dropServe.trans (.of_view ((lawView_setPeer _ _ _).trans (lawView_setLink _ _ _)))

/-- A vote unit with no vote open outside SERVICE, and a window for an open vote alone (R92, R113). -/
theorem lawsKept_vote {v : VoteUnit} (hopened : v.state = .opened → s.inService = true)
    (hwindow : v.window.isSome → v.state = .opened) : s.LawsKept { s with vote := v } := by
  refine .of_fields (fun h => ?_) (fun _ => id) (.inr ⟨rfl, rfl⟩)
  obtain ⟨hwave, hconfirmed, hdeadline, -, -, hserve, hjoin, hopen, hsweep⟩ := h
  exact ⟨hwave, hconfirmed, hdeadline, hopened, hwindow, hserve, hjoin, hopen, hsweep⟩

theorem lawsKept_closeVote {v : VoteUnit} (hstate : v.state ≠ .opened) (hwindow : v.window = none) :
    s.LawsKept { s with vote := v } :=
  s.lawsKept_vote (fun h => absurd h hstate) (fun h => by rw [hwindow] at h; cases h)

variable {s} in
theorem lawView_join {j : Join} (h : s.join = some j) (j' : Join) : ({ s with join := some j' } : State).lawView = s.lawView := by
  unfold State.lawView
  rw [h]
  rfl

/-! ### Entries to the modes -/

/-- An entry to STOPPED from a mode closes all that only SERVICE and JOINING have open (R112, R125). -/
theorem lawsKept_enterStopped (hmode : s.lane.mode ≠ none) (c : StopCause) (id : Nat) : s.LawsKept (s.enterStopped c id) := by
  have hvote := s.enterStopped_vote c id
  have heq := s.enterStopped_eq c id
  generalize s.enterStopped c id = t at hvote heq
  have hlane : t.lane = ⟨some .stopped, false, some c, none⟩ := by rw [heq]
  have hhealth : t.health = ⟨none, false⟩ := by rw [heq]
  have hserve : t.serve = none := by rw [heq]
  have hjoin : t.join = none := by rw [heq]
  have hsweep : t.sweep = s.sweep := by rw [heq]
  refine .of_fields (fun h => ?_) (fun _ hm => by rw [hlane] at hm; simp at hm) (.inl hserve) (by rw [heq]; rfl) (by rw [heq])
  have hdropped : t.vote.state ≠ .opened ∧ t.vote.window = none := by
    obtain ⟨-, -, -, -, hwindow, -, -, -, -⟩ := h
    rw [hvote]
    split
    · exact ⟨by simp, rfl⟩
    · rename_i ho
      exact ⟨ho, by simpa [ho] using hwindow⟩
  refine ⟨by simp [hhealth], by simp [hlane], by simp [hlane, State.inService], fun ho => absurd ho hdropped.1,
    by simp [hdropped.2], by simp [hserve], by simp [hjoin], fun _ => .inr (by rw [hlane]), fun hs => ?_⟩
  rw [hsweep, h.sweep_none hmode] at hs
  cases hs

theorem lawsKept_stopRequest (c : StopCause) (id : Nat) : s.LawsKept (s.stopRequest c id) := by
  by_cases h : s.stops c
  · rw [stopRequest_of_stops h]
    obtain ⟨hm, -⟩ | ⟨hm, -⟩ := h <;> exact s.lawsKept_enterStopped (by simp [hm]) c id
  · rw [stopRequest_of_not_stops h]; exact .refl s

/-- The modes from which the lane enters SERVICE or JOINING (R118, R119, R152). -/
def opens : Prop := s.lane.mode = some .offline ∨ s.lane.mode = some .stopped ∨ s.lane.mode = some .joining

variable {s} in
/-- An entry to SERVICE, unconfirmed, with the deadline running (R118, R122, R152). -/
theorem lawsKept_enterService (hmode : s.opens) (d : Nat) : s.LawsKept { s with
    lane := { s.lane with mode := some .service, confirmed := false, deadline := some d }
    serve := none
    join := none
    opening := none } := by
  refine .of_fields (fun h => ?_) (fun _ hm => by simp at hm) (.inl rfl)
  have hout : s.lane.mode ≠ some .service := by rcases hmode with hm | hm | hm <;> simp [hm]
  have hsweep : s.sweep = none := h.sweep_none (by rcases hmode with hm | hm | hm <;> simp [hm])
  obtain ⟨hwave, -, -, hvote, hwindow⟩ := h.outside hout
  exact ⟨by simp [hwave], by simp, by simp [State.inService], by simp [hvote], by simp [hwindow], by simp, by simp, by simp,
    fun hs => by simp [hsweep] at hs⟩

variable {s} in
/-- An entry to JOINING (R119, R145). -/
theorem lawsKept_enterJoining (hmode : s.opens) (j : Join) : s.LawsKept { s with
    lane := { s.lane with mode := some .joining, confirmed := false, deadline := none }
    serve := none
    join := some j
    opening := none } := by
  refine .of_fields (fun h => ?_) (fun _ hm => by simp at hm) (.inl rfl)
  have hout : s.lane.mode ≠ some .service := by rcases hmode with hm | hm | hm <;> simp [hm]
  have hsweep : s.sweep = none := h.sweep_none (by rcases hmode with hm | hm | hm <;> simp [hm])
  obtain ⟨hwave, -, -, hvote, hwindow⟩ := h.outside hout
  exact ⟨by simp [hwave], by simp, by simp [State.inService], by simp [hvote], by simp [hwindow], by simp,
    by simp [State.isJoining], by simp, fun hs => by simp [hsweep] at hs⟩

variable {s} in
/-- An OPEN begins in OFFLINE or STOPPED (R117). -/
theorem lawsKept_beginOpening (hmode : s.lane.mode = some .offline ∨ s.lane.mode = some .stopped) (o : Opening) :
    s.LawsKept { s with opening := some o } := by
  refine .of_fields (fun h => ?_) (fun _ => id) (.inr ⟨rfl, rfl⟩)
  obtain ⟨hwave, hconfirmed, hdeadline, hvote, hwindow, hserve, hjoin, -, hsweep⟩ := h
  exact ⟨hwave, hconfirmed, hdeadline, hvote, hwindow, hserve, hjoin, fun _ => hmode.imp_left isOffline_iff.mpr, hsweep⟩

/-- The end of the sweep enters OFFLINE from no mode (R18, R115). -/
theorem lawsKept_sweepEnded : s.LawsKept s.sweepEnded := by
  unfold sweepEnded
  split
  · exact .refl s
  · rename_i done hs
    have hnone : s.LaneLaw → s.lane.mode = none := fun ⟨_, _, _, _, _, _, _, _, hsweep⟩ => (hsweep (by rw [hs]; rfl)).1
    refine .of_fields (fun h => ?_) (fun h _ => .inl (hnone h)) (.inr ⟨rfl, rfl⟩)
    have hmode := hnone h
    obtain ⟨hwave, hconfirmed, hdeadline, hvote, hwindow⟩ := h.outside (by simp [hmode])
    obtain ⟨-, -, -, -, -, hserve, hjoin, -, -⟩ := h
    refine ⟨by simp [hwave], by simp [hconfirmed], by simp [hdeadline, State.inService], by simp [hvote], by simp [hwindow],
      ?_, ?_, fun _ => .inl rfl, fun h => by cases h⟩
    · simpa [State.inService, hmode] using hserve
    · simpa [State.isJoining, hmode] using hjoin

/-- A warm restart outside the sweep leaves OFFLINE with everything closed (R91, R114, R128, R133). -/
theorem lawsKept_warmRestart (hsweep : s.sweep = none) : s.LawsKept s.warmRestart := by
  obtain ⟨hlane, hhealth, hvote, -, -, hlocks, -, hserve, hjoin, -, -, -, hopen, -, -, -, -, -, -, -, -, -, hs, -⟩ :=
    s.warmRestarted_warmRestart
  have hlock : ∀ k, s.warmRestart.lock k = LockRecord.cleared := fun k => by
    rw [State.lock, hlocks]; exact tableGet_replicate _ _ _
  refine ⟨fun _ => ?_, fun _ _ => ⟨fun k => ?_, fun _ k => ?_⟩, fun _ _ v hv => ?_⟩
  · refine ⟨by simp [hhealth], by simp [hlane], by simp [hlane, State.inService], by simp [hvote], by simp [hvote],
      by simp [hserve], by simp [hjoin], by simp [hopen], fun h => ?_⟩
    rw [hs, hsweep] at h; cases h
  · rw [hlock]; exact ⟨rfl, fun x hx => by cases hx⟩
  · rw [hlock]; rfl
  · rw [hserve] at hv; cases hv

/-- A warm restart that was put off acts outside the sweep (R18, R128). -/
theorem lawsKept_warmRestart_of_due (hdue : s.restartDue = true) : s.LawsKept s.warmRestart :=
  .of_law fun h => s.lawsKept_warmRestart (h.sweep_none_of_due hdue)

/-! ### Correcting reads -/

theorem lawsKept_uncorrectable (page offset : Nat) (src : StoreSource) : s.LawsKept (s.uncorrectable page offset src) := by
  unfold uncorrectable
  split
  · exact .refl s
  · dsimp only []
    split
    · exact (LawsKept.of_view (s.lawView_raise _)).trans (lawsKept_stopRequest _ _ _)
    · exact .of_view ((lawView_poisonWord _ _ _ _).trans (s.lawView_raise _))

/-- A correcting read stops the lane where it finds a VITAL word DOUBLE, and else leaves what the laws look at (R7, R9). -/
theorem lawsKept_readCell (frame page offset : Nat) (src : StoreSource) :
    s.LawsKept (s.readCell frame page offset src).1 := by
  unfold readCell
  dsimp only []
  split
  · exact .refl s
  · exact .of_view (lawView_reportCorrection _ _ _)
  · exact s.lawsKept_uncorrectable _ _ _

theorem lawsKept_readWord (page offset : Nat) (src : StoreSource) : s.LawsKept (s.readWord page offset src).1 := by
  unfold readWord
  split
  · exact s.lawsKept_readCell _ _ _ _
  · exact .refl s

variable {s} in
theorem lawsKept_of_readWord {t : State} {page offset : Nat} {src : StoreSource} {x : Option Word}
    (h : s.readWord page offset src = (t, x)) : s.LawsKept t := by
  have hread := s.lawsKept_readWord page offset src
  rwa [h] at hread

theorem lawsKept_of_readRun {page : Nat} {src : StoreSource} {n : Nat} : ∀ {s t : State} {offset : Nat}
    {x : Option (List Word)}, s.readRun page src offset n = (t, x) → s.LawsKept t := by
  induction n with
  | zero =>
    intro s t offset x h
    cases h
    exact .refl s
  | succ n ih =>
    intro s t offset x h
    simp only [readRun] at h
    split at h
    · cases h
      exact lawsKept_of_readWord ‹_›
    · rename_i s1 w h1
      split at h <;> cases h <;> exact (lawsKept_of_readWord h1).trans (ih ‹_›)

/-! ### The patrol -/

theorem lawsKept_judgePass {p : Pass} {r : Region} (hr : s.region p.region = some r) : s.LawsKept (s.judgePass p r) := by
  unfold judgePass
  split
  · exact .refl s
  · split
    · exact (LawsKept.of_view (s.lawView_raise _)).trans (lawsKept_stopRequest _ _ _)
    · exact .of_view (lawView_setRegion (s := s.raise _) (r := { r with state := .suspect }) hr rfl)

theorem lawsKept_patrolStep : s.LawsKept s.patrolStep := by
  unfold patrolStep
  split
  · exact .refl s
  · rename_i p _
    split
    · exact .refl s
    · rename_i r hr
      split
      · exact .refl s
      · have hread := s.lawsKept_readWord (r.first + p.cursor / 256) (p.cursor % 256) .patrol
        have hregions := congrArg State.regions (s.readWord_eq (r.first + p.cursor / 256) (p.cursor % 256) .patrol)
        generalize s.readWord (r.first + p.cursor / 256) (p.cursor % 256) .patrol = x at hread hregions ⊢
        obtain ⟨s1, value⟩ := x
        dsimp only [] at hread hregions ⊢
        have hpass : s1.LawsKept { s1 with patrol := { s1.patrol with pass := some (p.step r.seed value) } } := .of_view rfl
        split
        · exact hread.trans hpass
        · have hp : (p.step r.seed value).region = p.region := by cases value <;> rfl
          refine (hread.trans hpass).trans (.trans (lawsKept_judgePass _ ?_) (.of_view (lawView_selectPass _)))
          rw [hp, ← hr]
          exact region_congr hregions p.region

end State
end Sys2Proof.Machine
end

section
/-! The serve record through what the transfer engine does with it: every update keeps the laws of the record (R134, R136 to
R143). -/

namespace Sys2Proof.Machine

/-! ### Page sets -/

theorem setInsert_pairwise (x : Nat) {xs : List Nat} (h : xs.Pairwise (· < ·)) : (setInsert x xs).Pairwise (· < ·) := by
  induction xs with
  | nil => simp [setInsert]
  | cons y ys ih =>
    obtain ⟨hy, hys⟩ := List.pairwise_cons.mp h
    unfold setInsert
    split
    · rename_i hlt
      refine List.pairwise_cons.mpr ⟨fun z hz => ?_, h⟩
      rcases List.mem_cons.mp hz with rfl | hz
      · exact hlt
      · exact hlt.trans (hy z hz)
    · split
      · exact h
      · refine List.pairwise_cons.mpr ⟨fun z hz => ?_, ih hys⟩
        rcases mem_setInsert.mp hz with rfl | hz
        · omega
        · exact hy z hz

theorem mem_setUnion {y : Nat} {xs ys : List Nat} : y ∈ setUnion xs ys ↔ y ∈ xs ∨ y ∈ ys := by
  unfold setUnion
  induction xs with
  | nil => simp
  | cons x xs ih => rw [List.foldr_cons, mem_setInsert, ih, List.mem_cons, or_assoc]

theorem setUnion_pairwise (xs : List Nat) {ys : List Nat} (h : ys.Pairwise (· < ·)) : (setUnion xs ys).Pairwise (· < ·) := by
  unfold setUnion
  induction xs with
  | nil => exact h
  | cons x xs ih => exact setInsert_pairwise x ih

theorem setErase_pairwise (x : Nat) {xs : List Nat} (h : xs.Pairwise (· < ·)) : (setErase x xs).Pairwise (· < ·) := h.filter _

/-- The VITAL pages of the lane, ascending (R21). -/
theorem State.vitalPages_pairwise (s : State) : s.vitalPages.Pairwise (· < ·) := List.pairwise_lt_range.filter _

theorem State.isVital_of_vitalPages {s : State} {page : Nat} (h : page ∈ s.vitalPages) : s.isVital page = true :=
  (List.mem_filter.mp h).2

/-! ### Updates of a record -/

theorem Serve.slotOf_isNone {v : Serve} {page : Nat} : (v.slotOf page).isNone = true ↔ ∀ x ∈ v.slots, x.page ≠ page := by
  simp [Serve.slotOf]

/-- The page chosen for a send step is the page in send (R137, R142). -/
theorem Serve.inSend_of_chooseBulk {v w : Serve} {x : InSend} (h : v.chooseBulk = some (w, x)) : w.inSend = some x := by
  unfold Serve.chooseBulk at h
  split at h
  · cases h; assumption
  · split at h <;> cases h
    rfl

theorem Serve.inSend_of_chooseFinal {v w : Serve} {x : InSend} (h : v.chooseFinal = some (w, x)) : w.inSend = some x := by
  unfold Serve.chooseFinal at h
  split at h
  · cases h; assumption
  · split at h <;> cases h
    rfl

namespace State.RecordLaw

variable {s : State} {v : Serve}

/-- The record of an accepted ask (R136). -/
theorem begin (s : State) (port : LinkPort) : s.RecordLaw (Serve.begin port s.vitalPages) :=
  ⟨s.vitalPages_pairwise, .nil, fun _ hp => isVital_of_vitalPages hp, by simp [Serve.begin], by simp [Serve.begin],
    by simp [Serve.begin], by simp [Serve.begin], by simp [Serve.begin], by simp [Serve.begin], by simp [Serve.begin],
    by simp [Serve.begin], by simp [Serve.begin], by simp [Serve.begin]⟩

variable (h : s.RecordLaw v)
include h

/-- A dirty mark in BULK (R138, R139). -/
theorem mark (hbulk : v.phase = .bulk) {page : Nat} (hp : s.isVital page = true) :
    s.RecordLaw { v with dirty := setInsert page v.dirty } := by
  obtain ⟨hdirty, hfinal, hdv, hfv, -, hopen, hpend, hnodup, hslots, hcount, hlimit, hconv, hsend⟩ := h
  refine ⟨setInsert_pairwise _ hdirty, hfinal, fun q hq => ?_, hfv, fun hc => ?_, hopen, hpend, hnodup, hslots, hcount, hlimit,
    hconv, hsend⟩
  · rcases mem_setInsert.mp hq with rfl | hq
    · exact hp
    · exact hdv q hq
  · exact absurd (hbulk.symm.trans hc) (by decide)

theorem marked {page : Nat} (hp : s.isVital page = true) : s.RecordLaw (v.marked page) := by
  unfold Serve.marked
  split
  · exact h.mark ‹_› hp
  · split
    · exact h
    · exact h.mark ‹_› hp
  · exact h

/-- A page captured in a slot: the slots stay of different pages of the final set (R141). -/
theorem withSlot {page : Nat} (hc : v.captures page = true) (words : List Word) : s.RecordLaw (v.withSlot page words) := by
  obtain ⟨hdirty, hfinal, hdv, hfv, hphase, hopen, hpend, hnodup, hslots, -, hlimit, hconv, hsend⟩ := h
  simp only [Serve.captures, Bool.and_eq_true, Bool.or_eq_true, List.contains_iff_mem, Serve.slotOf_isNone,
    beq_iff_eq] at hc
  obtain ⟨⟨⟨hpending, hin⟩, -⟩, hfree⟩ := hc
  have hpages : (v.withSlot page words).slots.map Slot.page = v.slots.map Slot.page ++ [page] := by
    simp [Serve.withSlot]
  have hnodup' : ((v.withSlot page words).slots.map Slot.page).Nodup := by
    rw [hpages, List.nodup_append]
    refine ⟨hnodup, List.nodup_singleton page, fun a ha b hb hab => ?_⟩
    obtain ⟨x, hx, rfl⟩ := List.mem_map.mp ha
    exact hfree x hx (hab.trans (List.mem_singleton.mp hb))
  have hslots' : ∀ x ∈ (v.withSlot page words).slots, x.page ∈ v.finalSet := fun x hx => by
    rcases List.mem_append.mp hx with hx | hx
    · exact hslots x hx
    · rw [List.mem_singleton.mp hx]; exact hin
  have hcount : (v.withSlot page words).slots.length ≤ v.finalSet.length := by
    rw [← List.length_map (f := Slot.page)]
    refine (hnodup'.subperm fun p hp => ?_).length_le
    obtain ⟨x, hx, rfl⟩ := List.mem_map.mp hp
    exact hslots' x hx
  refine ⟨hdirty, hfinal, hdv, hfv, hphase, fun hb hn => ?_, fun hb hp => ?_, hnodup', hslots', hcount, hlimit, hconv,
    fun x hx => ?_⟩
  · have hb' : v.phase = .bulk := hb
    have hn' : v.pendingCycle = none := hn
    simp [hb', hn'] at hpending
  · have hnone : v.inSend = none := hpend hb hp
    simp [Serve.withSlot, hnone]
  · obtain ⟨y, hy, rfl⟩ := Option.map_eq_some_iff.mp hx
    have hkept := hsend y hy
    split
    · exact hkept
    · exact hkept

theorem counted (covered : Bool) : s.RecordLaw (v.counted covered) := by
  unfold Serve.counted
  split
  · obtain ⟨hdirty, hfinal, hdv, hfv, hphase, hopen, hpend, hnodup, hslots, hcount, hlimit, hconv, hsend⟩ := h
    refine ⟨hdirty, hfinal, hdv, hfv, hphase, hopen, hpend, hnodup, hslots, hcount, hlimit, ?_, hsend⟩
    show bump 32 v.convergence ≤ 32
    unfold bump
    split <;> omega
  · exact h

/-- The candidate final set is ascending and of VITAL pages (R139). -/
theorem candidate : v.candidate.Pairwise (· < ·) ∧ ∀ p ∈ v.candidate, s.isVital p = true := by
  obtain ⟨hdirty, -, hdv, -, -, -, -, -, -, -, -, -, hsend⟩ := h
  unfold Serve.candidate
  split
  · rename_i x hx
    refine ⟨setInsert_pairwise _ hdirty, fun p hp => ?_⟩
    rcases mem_setInsert.mp hp with rfl | hp
    · exact (hsend x hx).1
    · exact hdv p hp
  · exact ⟨hdirty, hdv⟩

/-- A final decision prepared in BULK with none pending (R139). -/
theorem prepare (hbulk : v.phase = .bulk) (hnone : v.pendingCycle = none)
    (hfits : v.candidate.length ≤ s.config.finalLimit) (n : Nat) (image : List LockTimer) (list : Option DigestList) :
    s.RecordLaw (v.prepare n image list) := by
  obtain ⟨hsorted, hvital⟩ := h.candidate
  obtain ⟨-, -, -, -, -, hopen, -, -, -, -, -, hconv, -⟩ := h
  have hslots : (v.prepare n image list).slots = [] := (hopen hbulk hnone).2
  exact ⟨.nil, hsorted, by simp [Serve.prepare], hvital, by simp [Serve.prepare, hbulk], by simp [Serve.prepare],
    fun _ _ => rfl, by simp [hslots], by simp [hslots], by simp [hslots], hfits, hconv, by simp [Serve.prepare]⟩

/-- A verdict on the pending decision confirms it or withdraws it (R140). -/
theorem judged (agreed : Bool) (n : Nat) : s.RecordLaw (v.judged agreed n) := by
  unfold Serve.judged
  split
  · rename_i hc
    obtain ⟨hbulk, hpending⟩ := hc
    obtain ⟨hdirty, hfinal, hdv, hfv, -, -, hpend, hnodup, hslots, hcount, hlimit, hconv, -⟩ := h
    have hidle : v.inSend = none := hpend hbulk (by rw [hpending]; rfl)
    split
    · exact ⟨.nil, hfinal, by simp [Serve.confirm], hfv, by simp [Serve.confirm], by simp [Serve.confirm],
        by simp [Serve.confirm], hnodup, hslots, hcount, hlimit, hconv, by simp [Serve.confirm, hidle]⟩
    · refine ⟨setUnion_pairwise _ hdirty, .nil, fun p hp => ?_, by simp [Serve.withdraw], by simp [Serve.withdraw, hbulk],
        by simp [Serve.withdraw], by simp [Serve.withdraw], by simp [Serve.withdraw], by simp [Serve.withdraw],
        by simp [Serve.withdraw], by simp [Serve.withdraw], hconv, by simp [Serve.withdraw, hidle]⟩
      exact (mem_setUnion.mp hp).elim (hfv p) (hdv p)
  · exact h

/-- The page in send advanced, with its record else as it was. -/
theorem advance {x : InSend} (hx : v.inSend = some x) {k : Nat} (hk : k < 256) :
    s.RecordLaw { v with inSend := some { x with next := k } } := by
  obtain ⟨hdirty, hfinal, hdv, hfv, hphase, hopen, hpend, hnodup, hslots, hcount, hlimit, hconv, hsend⟩ := h
  obtain ⟨hvital, -, hset⟩ := hsend x hx
  refine ⟨hdirty, hfinal, hdv, hfv, hphase, hopen, fun hb hp => ?_, hnodup, hslots, hcount, hlimit, hconv, ?_⟩
  · have hnone : v.inSend = none := hpend hb hp
    rw [hnone] at hx; cases hx
  · rintro y ⟨⟩
    exact ⟨hvital, hk, hset⟩

/-- A page chosen for sending in BULK leaves the dirty set (R137). -/
theorem chooseBulk (hbulk : v.phase = .bulk) (hnone : v.pendingCycle = none) {w : Serve} {x : InSend}
    (hw : v.chooseBulk = some (w, x)) : s.RecordLaw w := by
  unfold Serve.chooseBulk at hw
  split at hw
  · cases hw; exact h
  · split at hw
    · cases hw
    · rename_i p hp
      cases hw
      have hmem : p ∈ v.dirty := by
        unfold Serve.nextDirty at hp
        split at hp
        · cases hp; exact List.mem_of_find?_eq_some ‹_›
        · exact List.mem_of_mem_head? hp
      obtain ⟨hdirty, hfinal, hdv, hfv, -, hopen, -, hnodup, hslots, hcount, hlimit, hconv, -⟩ := h
      refine ⟨setErase_pairwise p hdirty, hfinal, fun q hq => hdv q (mem_setErase.mp hq).1, hfv, ?_, hopen, ?_, hnodup,
        hslots, hcount, hlimit, hconv, ?_⟩
      · intro hf; exact absurd (hbulk.symm.trans hf) (by decide)
      · intro _ hs; simp [hnone] at hs
      · rintro y ⟨⟩
        exact ⟨hdv p hmem, by simp, fun hf => absurd (hbulk.symm.trans hf) (by decide)⟩

theorem sentBulk {x : InSend} (hx : v.inSend = some x) (n : Nat) : s.RecordLaw (v.sentBulk x n) := by
  unfold Serve.sentBulk
  split
  · exact h.advance hx ‹_›
  · obtain ⟨hdirty, hfinal, hdv, hfv, hphase, hopen, -, hnodup, hslots, hcount, hlimit, hconv, -⟩ := h
    exact ⟨hdirty, hfinal, hdv, hfv, hphase, hopen, fun _ _ => rfl, hnodup, hslots, hcount, hlimit, hconv, by simp⟩

/-- A page chosen for sending in FINAL is an unsent page of the final set (R142). -/
theorem chooseFinal (hfin : v.phase = .final) {w : Serve} {x : InSend} (hw : v.chooseFinal = some (w, x)) :
    s.RecordLaw w := by
  unfold Serve.chooseFinal at hw
  split at hw
  · cases hw; exact h
  · split at hw
    · cases hw
    · rename_i p hp
      cases hw
      have hmem := List.mem_of_find?_eq_some hp
      have hunsent : p ∉ v.fullySent := by simpa using List.find?_some hp
      obtain ⟨hdirty, hfinal, hdv, hfv, hphase, hopen, -, hnodup, hslots, hcount, hlimit, hconv, -⟩ := h
      refine ⟨hdirty, hfinal, hdv, hfv, hphase, hopen, fun hb => absurd (hfin.symm.trans hb) (by decide), hnodup, hslots,
        hcount, hlimit, hconv, ?_⟩
      rintro y ⟨⟩
      exact ⟨hfv p hmem, by simp, fun _ => ⟨hmem, hunsent⟩⟩

theorem sentFinal {x : InSend} (hx : v.inSend = some x) (n : Nat) : s.RecordLaw (v.sentFinal x n) := by
  unfold Serve.sentFinal
  split
  · exact h.advance hx ‹_›
  · obtain ⟨hdirty, hfinal, hdv, hfv, hphase, hopen, -, hnodup, hslots, hcount, hlimit, hconv, -⟩ := h
    refine ⟨hdirty, hfinal, hdv, hfv, hphase, fun hb hn => ?_, fun _ _ => rfl, ?_, fun y hy => ?_, ?_, hlimit, hconv,
      by simp⟩
    · obtain ⟨hset, hempty⟩ := hopen hb hn
      exact ⟨hset, by simp [hempty]⟩
    · exact hnodup.sublist (List.filter_sublist.map Slot.page)
    · exact hslots y (List.mem_filter.mp hy).1
    · exact (List.length_filter_le _ _).trans hcount

end State.RecordLaw

/-! ### The engine's events of the donor -/

namespace State

variable {s : State}

/-- The serve record replaced while a serve runs. -/
theorem lawsKept_updateServe {v w : Serve} (hv : s.serve = some v) (hw : s.RecordLaw v → s.RecordLaw w) :
    s.LawsKept { s with serve := some w } where
  lane h := by
    obtain ⟨hwave, hconfirmed, hdeadline, hvote, hwindow, hserve, hjoin, hopen, hsweep⟩ := h
    exact ⟨hwave, hconfirmed, hdeadline, hvote, hwindow, fun _ => hserve (by rw [hv]; rfl), hjoin, hopen, hsweep⟩
  lock _ hl := hl
  serve _ hs := by
    rintro u ⟨⟩
    exact hw (hs v hv)

/-- A serve begun in SERVICE (R136). -/
theorem lawsKept_beginServe (hin : s.inService = true) {w : Serve} (hw : s.RecordLaw w) :
    s.LawsKept { s with serve := some w } where
  lane h := by
    obtain ⟨hwave, hconfirmed, hdeadline, hvote, hwindow, -, hjoin, hopen, hsweep⟩ := h
    exact ⟨hwave, hconfirmed, hdeadline, hvote, hwindow, fun _ => hin, hjoin, hopen, hsweep⟩
  lock _ hl := hl
  serve _ _ := by
    rintro u ⟨⟩
    exact hw

variable (s)

theorem lawsKept_judgeAsk (port : LinkPort) : s.LawsKept (s.judgeAsk port) := by
  have hdecline : ∀ reason, s.LawsKept (s.declineAsk port reason) := fun _ =>
    .of_view ((lawView_raise _ _).trans (s.lawView_putControl _ _))
  unfold judgeAsk
  repeat' split
  case isFalse.isFalse.isFalse.isFalse hserving _ _ =>
    have hin : s.inService = true := by
      simp only [Bool.not_eq_true', Bool.not_eq_false, Bool.and_eq_true] at hserving
      exact hserving.1
    unfold acceptAsk
    refine (lawsKept_beginServe hin (RecordLaw.begin s port)).trans (.of_view ?_)
    cases port <;> rfl
  all_goals exact hdecline _

theorem lawsKept_joinAsked (port : LinkPort) (sender : Nat) : s.LawsKept (s.joinAsked port sender) := by
  unfold joinAsked
  split
  · exact .of_view (s.lawView_checkFail _)
  · split
    · exact (s.lawsKept_endServe _ _).trans (lawsKept_judgeAsk _ _)
    · exact s.lawsKept_judgeAsk _

theorem lawsKept_closeCompleted (n : Nat) : s.LawsKept (s.closeCompleted n) := by
  unfold closeCompleted
  split
  · exact .refl s
  · rename_i v hv
    split
    · rename_i hbulk hnone
      dsimp only []
      split
      · rename_i hfits
        simp only [Bool.and_eq_true, decide_eq_true_eq] at hfits
        refine lawsKept_updateServe hv fun h => (h.counted _).prepare ?_ ?_ hfits.2 _ _ _
        · unfold Serve.counted; split <;> exact hbulk
        · unfold Serve.counted; split <;> exact hnone
      · exact lawsKept_updateServe hv fun h => h.counted _
    · exact .refl s
    · exact .refl s

/-- The completion of a close changes the serve record alone (R139). -/
theorem closeCompleted_eq (n : Nat) : s.closeCompleted n = { s with serve := (s.closeCompleted n).serve } := by
  unfold closeCompleted
  split
  · rfl
  · split
    · dsimp only []
      split <;> rfl
    · rfl
    · rfl

theorem lawsKept_verdictHanded (agreed : Bool) (n : Nat) : s.LawsKept (s.verdictHanded agreed n) := by
  unfold verdictHanded
  split
  · exact .refl s
  · rename_i v hv
    have hjudged := lawsKept_updateServe hv fun h => h.judged agreed n
    dsimp only []
    split
    · exact hjudged.trans (lawsKept_endServe _ _ _)
    · exact hjudged

/-- A frame of a page in send queued after words read from the store, with the serve record that it leaves (R137, R142). -/
theorem lawsKept_queuePage {t : State} {page offset n : Nat} {v w : Serve} {ws : List Word}
    (hread : s.readRun page .send offset n = (t, some ws)) (hv : s.serve = some v) (hw : t.RecordLaw v → t.RecordLaw w)
    (port : LinkPort) (b : LinkBody) : s.LawsKept (({ t with serve := some w } : State).putBulk port b) := by
  have hserve : t.serve = some v := by
    rw [(readRun_some hread).1]; exact hv
  exact (lawsKept_of_readRun hread).trans ((lawsKept_updateServe hserve hw).trans (.of_view (lawView_putBulk _ _ _)))

theorem lawsKept_sendStep : s.LawsKept s.sendStep := by
  unfold sendStep
  split
  · exact .refl s
  · rename_i v hv
    split
    · rename_i v1 x hbulk hnone _ hchoose
      have hchosen : s.LawsKept { s with serve := some v1 } :=
        lawsKept_updateServe hv fun h => h.chooseBulk hbulk hnone hchoose
      have hsend : v1.inSend = some x := Serve.inSend_of_chooseBulk hchoose
      split
      · rename_i hread
        exact hchosen.trans (lawsKept_queuePage _ hread rfl (fun h => h.sentBulk hsend _) _ _)
      · exact hchosen.trans (lawsKept_of_readRun ‹_›)
    · exact .refl s

theorem lawsKept_finalSendStep : s.LawsKept s.finalSendStep := by
  unfold finalSendStep
  split
  · exact .refl s
  · rename_i v hv
    split
    · rename_i v1 x hfinal _ hchoose
      have hchosen : s.LawsKept { s with serve := some v1 } :=
        lawsKept_updateServe hv fun h => h.chooseFinal hfinal hchoose
      have hsend : v1.inSend = some x := Serve.inSend_of_chooseFinal hchoose
      dsimp only []
      split <;> rename_i hread <;> split at hread
      · cases hread
        exact hchosen.trans ((lawsKept_updateServe rfl fun h => h.sentFinal hsend _).trans (.of_view (lawView_putBulk _ _ _)))
      · exact hchosen.trans (lawsKept_queuePage _ hread rfl (fun h => h.sentFinal hsend _) _ _)
      · cases hread
      · exact hchosen.trans (lawsKept_of_readRun hread)
    · exact .refl s

theorem lawsKept_resumeSend (port : LinkPort) : s.LawsKept (s.resumeSend port) := by
  unfold resumeSend
  split
  · exact .refl s
  · split
    · split
      · exact s.lawsKept_sendStep
      · exact s.lawsKept_finalSendStep
    · exact .refl s

theorem lawsKept_transmitEnded (port : LinkPort) : s.LawsKept (s.transmitEnded port) := by
  unfold transmitEnded
  dsimp only []
  split
  · exact (LawsKept.of_view (s.lawView_setLink _ _)).trans (lawsKept_resumeSend _ _)
  · exact .of_view (s.lawView_setLink _ _)

theorem lawsKept_queueLockImage : s.LawsKept s.queueLockImage := by
  unfold queueLockImage
  split
  · exact .refl s
  · rename_i v hv
    split
    · exact (lawsKept_updateServe (w := { v with lockImageQueued := true }) hv id).trans (.of_view (lawView_putBulk _ _ _))
    · exact .refl s

theorem lawsKept_queueSyncMark : s.LawsKept s.queueSyncMark := by
  unfold queueSyncMark
  split
  · exact .refl s
  · split
    · exact s.lawsKept_dropServe.trans (.of_view (lawView_putBulk _ _ _))
    · exact .refl s

/-! ### Host writes -/

theorem lawsKept_capture (page : Nat) : s.LawsKept (s.capture page) := by
  unfold capture
  split
  · exact .refl s
  · rename_i v hv
    split
    · rename_i hc
      split
      · rename_i s1 words hread
        have hserve : s1.serve = some v := by rw [(readRun_some hread).1]; exact hv
        rw [hserve]
        exact (lawsKept_of_readRun hread).trans (lawsKept_updateServe hserve fun h => h.withSlot hc words)
      · exact lawsKept_of_readRun ‹_›
    · exact .refl s

variable {s} in
theorem lawsKept_markDirty {page : Nat} (hp : s.isVital page = true) : s.LawsKept (s.markDirty page) := by
  unfold markDirty
  cases hv : s.serve with
  | none => exact .of_eq (u := s) (by rw [Option.map_none, ← hv]) rfl
  | some v => exact lawsKept_updateServe hv fun h => h.marked hp

end State
end Sys2Proof.Machine
end

section
/-! The lock table through its events: every record keeps the fields of its state, and its release value its range (R72 to R91). -/

namespace Sys2Proof.Machine

/-! ### One record -/

namespace State.TimerLaw

variable {s : State} {t : LockTimer} (h : s.TimerLaw t)
include h

theorem of_running (hst : t.state = .running) : s.ArmedLaw t ∧ 1 ≤ t.remaining ∧ t.remaining ≤ t.preset ∧
    t.overrange = false ∧ ∀ p, t.pending = some p → t.mode = some .rearm ∧ 1 ≤ p ∧ p ≤ 60000 := by
  unfold State.TimerLaw at h
  rwa [hst] at h

theorem of_expired (hst : t.state = .expired) : s.ArmedLaw t ∧ -4095 ≤ t.remaining ∧ t.remaining ≤ 0 ∧
    t.pending = none ∧ (t.overrange = true → t.remaining = -4095) := by
  unfold State.TimerLaw at h
  rwa [hst] at h

/-- A count takes a RUNNING record down, to EXPIRED at 0 (R84, R86). -/
theorem count (hst : t.state = .running) : s.TimerLaw t.count.1 := by
  obtain ⟨harmed, hlow, hhigh, hover, hpending⟩ := h.of_running hst
  unfold LockTimer.count
  split
  · exact ⟨harmed, by simp, le_refl _, rfl, by simp [hover]⟩
  · show State.TimerLaw s { t with remaining := t.remaining - 1 }
    unfold State.TimerLaw
    dsimp only []
    rw [hst]
    exact ⟨harmed, by omega, by omega, hover, hpending⟩

/-- A reload starts a REARM record from its pending preset, or from its preset (R85). -/
theorem reload (hst : t.state = .running) : s.TimerLaw t.reload := by
  obtain ⟨⟨hlow, hhigh, hform⟩, -, -, hover, hpending⟩ := h.of_running hst
  have hrange : 1 ≤ t.pending.getD t.preset ∧ t.pending.getD t.preset ≤ 60000 := by
    cases hp : t.pending with
    | none => exact ⟨hlow, hhigh⟩
    | some p => exact (hpending p hp).2
  unfold State.TimerLaw LockTimer.reload
  dsimp only []
  rw [hst]
  exact ⟨⟨hrange.1, hrange.2, hform⟩, by omega, le_refl _, hover, fun p hp => by cases hp⟩

/-- An EXPIRED record sinks, to -4095 at the lowest (R87). -/
theorem sink (hst : t.state = .expired) : s.TimerLaw t.sink.1 := by
  obtain ⟨harmed, hlow, hhigh, hpending, hover⟩ := h.of_expired hst
  have hsunk : ∀ (x : Int) (o : Bool), -4095 ≤ x → x ≤ 0 → (o = true → x = -4095) →
      s.TimerLaw { t with remaining := x, overrange := o } := by
    intro x o h1 h2 h3
    unfold State.TimerLaw
    dsimp only []
    rw [hst]
    exact ⟨harmed, h1, h2, hpending, h3⟩
  unfold LockTimer.sink
  split
  · exact hsunk _ _ (by omega) (by omega) fun ho => by have := hover ho; omega
  · split <;> exact hsunk _ _ (by decide) (by decide) fun _ => rfl

theorem step (values : List (Nat × Word)) : s.TimerLaw (t.step values).1 := by
  unfold LockTimer.step
  split
  · exact h
  · exact h.sink ‹_›
  · exact h.count ‹_›
  · split
    · exact h
    · exact h.count ‹_›
  · split
    · exact h.reload ‹_›
    · exact h.count ‹_›
  · exact h

/-- The count of a record in use lies in the range of a release value (R72, R77). -/
theorem remaining_range (hst : t.state ≠ .idle) : -4095 ≤ t.remaining ∧ t.remaining ≤ 60000 := by
  cases hc : t.state with
  | idle => exact absurd hc hst
  | running =>
    obtain ⟨⟨-, hpreset, -⟩, hlow, hhigh, -, -⟩ := h.of_running hc
    omega
  | expired =>
    obtain ⟨-, hlow, hhigh, -, -⟩ := h.of_expired hc
    omega

end State.TimerLaw

/-- A record in the IDLE row of R72. -/
theorem State.timerLaw_idle (s : State) : s.TimerLaw .idle := rfl

/-- An IDLE record stays as it is through an advance (R81). -/
theorem LockTimer.step_of_idle {t : LockTimer} (h : t.state = .idle) (values : List (Nat × Word)) : t.step values = (t, none) := by
  unfold LockTimer.step
  rw [h]

/-- The fields of one lock record (R72). -/
def State.LockRecordLaw (s : State) (r : LockRecord) : Prop :=
  s.TimerLaw r.timer ∧ ∀ x, r.release = some x → -4095 ≤ x ∧ x ≤ 60000

theorem State.lockLaw_iff (s : State) : s.LockLaw ↔ (∀ k, s.LockRecordLaw (s.lock k)) ∧
    (s.lane.mode = none ∨ s.lane.mode = some .offline → ∀ k, (s.lock k).timer.state = .idle) := Iff.rfl

namespace State

variable {s : State}

/-! ### The table -/

/-- A lock table whose records keep the fields of their states, and are IDLE where they were so before the first OPEN (R72,
R91). -/
theorem lawsKept_locks {table : Vector LockRecord 48} (h : s.LockLaw → ∀ k,
      s.LockRecordLaw (tableGet table k LockRecord.cleared) ∧
        ((s.lane.mode = none ∨ s.lane.mode = some .offline) → (tableGet table k LockRecord.cleared).timer.state = .idle)) :
    s.LawsKept { s with locks := table } where
  lane hs := hs
  lock _ hl := ⟨fun k => (h hl k).1, fun hm k => (h hl k).2 hm⟩
  serve _ hv := hv

/-- One record of the lock table replaced. -/
theorem lawsKept_setLock {index : Nat} {r : LockRecord} (hr : s.LockLaw → s.LockRecordLaw r)
    (hidle : s.LockLaw → s.lane.mode = none ∨ s.lane.mode = some .offline → r.timer.state = .idle) :
    s.LawsKept (s.setLock index r) := by
  refine lawsKept_locks fun hl k => ?_
  rcases tableGet_tableSet_or s.locks index k r LockRecord.cleared with hk | ⟨-, hk⟩ <;> rw [hk]
  · exact ⟨hl.1 k, fun hm => hl.2 hm k⟩
  · exact ⟨hr hl, hidle hl⟩

/-- Every record of the lock table changed by one function of its index and itself. -/
theorem lawsKept_mapLocks {f : Nat → LockRecord → LockRecord}
    (hf : ∀ k, s.LockRecordLaw (s.lock k) → s.LockRecordLaw (f k (s.lock k)))
    (hidle : s.LockLaw → s.lane.mode = none ∨ s.lane.mode = some .offline → ∀ k, (f k (s.lock k)).timer.state = .idle) :
    s.LawsKept { s with locks := s.locks.mapIdx f } := by
  refine lawsKept_locks fun hl k => ?_
  by_cases hk : k < 48
  · have hget : tableGet (s.locks.mapIdx f) k LockRecord.cleared = f k (s.lock k) := by
      simp [tableGet, State.lock, hk]
    rw [hget]
    exact ⟨hf k (hl.1 k), fun hm => hidle hl hm k⟩
  · have hget := tableGet_of_ge s.locks LockRecord.cleared (Nat.not_lt.mp hk)
    rw [tableGet_of_ge _ _ (Nat.not_lt.mp hk)]
    exact ⟨⟨s.timerLaw_idle, fun x hx => by cases hx⟩, fun _ => rfl⟩

theorem lawsKept_clearLocks (s : State) : s.LawsKept s.clearLocks := by
  refine lawsKept_locks fun _ k => ?_
  rw [tableGet_replicate]
  exact ⟨⟨s.timerLaw_idle, fun x hx => by cases hx⟩, fun _ => rfl⟩

theorem lawsKept_stepLock (values : List (Nat × Word)) (s : State) (k : Nat) : s.LawsKept (stepLock values s k) := by
  have hset : s.LawsKept (s.setLock k { s.lock k with timer := ((s.lock k).timer.step values).1 }) := by
    refine lawsKept_setLock (fun hl => ⟨(hl.1 k).1.step values, (hl.1 k).2⟩) fun hl hm => ?_
    rw [LockTimer.step_of_idle (hl.2 hm k)]
    exact hl.2 hm k
  unfold stepLock
  dsimp only []
  split
  · exact hset.trans (.of_view (lawView_raise _ _))
  · exact hset

/-- A fold of an operation that keeps the laws keeps them. -/
theorem lawsKept_foldl {α : Type} {f : State → α → State} (hf : ∀ (s : State) (a : α), s.LawsKept (f s a)) (l : List α) :
    ∀ s : State, s.LawsKept (l.foldl f s) := by
  induction l with
  | nil => exact LawsKept.refl
  | cons a l ih => exact fun s => (hf s a).trans (ih _)

variable (s)

theorem lawsKept_stepLocks (values : List (Nat × Word)) : s.LawsKept (s.stepLocks values) :=
  lawsKept_foldl (lawsKept_stepLock values) _ s

theorem lawsKept_reply (o : ReplyOutcome) (bs : List Byte) : s.LawsKept (s.reply o bs) := .of_view (s.lawView_reply o bs)

/-! ### Requests on the table -/

variable {s} in
/-- A record changed in SERVICE, with its reply. -/
theorem lawsKept_setLockReply (hin : s.inService = true) {index : Nat} {r : LockRecord}
    (hr : s.LockLaw → s.LockRecordLaw r) (o : ReplyOutcome) (bs : List Byte) :
    s.LawsKept ((s.setLock index r).reply o bs) := by
  refine (lawsKept_setLock hr fun _ hm => ?_).trans (lawsKept_reply _ _ _)
  rw [inService_iff.mp hin] at hm
  simp at hm

/-- A form that passes the checks of R74, with its gate, is that of an armed record. -/
theorem armedForm_of_armForm {code : Nat} {gate : Option Nat} {mode : LockMode} (hform : armForm code gate = some mode)
    (hgate : s.gateFitsRegion gate = true) : some mode = some .plain ∧ gate = none ∨
      (some mode = some .pause ∨ some mode = some .rearm) ∧ ∃ g, gate = some g ∧ g < 30720 ∧ s.isVital (g / 256) = true := by
  have hgood : ∀ g, gate = some g → g < 30720 ∧ s.isVital (g / 256) = true := by
    rintro g rfl
    simp only [gateFitsRegion, goodGate, Bool.and_eq_true, decide_eq_true_eq] at hgate
    exact hgate
  unfold armForm at hform
  split at hform <;> cases hform
  · exact .inl ⟨rfl, rfl⟩
  · exact .inr ⟨.inl rfl, _, rfl, hgood _ rfl⟩
  · exact .inr ⟨.inr rfl, _, rfl, hgood _ rfl⟩

theorem clampPreset_range (n : Nat) : 1 ≤ clampPreset n ∧ clampPreset n ≤ 60000 := by
  unfold clampPreset
  omega

theorem lawsKept_lockArmEvent (index code : Nat) (gate : Option Nat) (n : Nat) :
    s.LawsKept (s.lockArmEvent index code gate n) := by
  unfold lockArmEvent
  split
  · exact s.lawsKept_reply _ _
  · rename_i hin
    have hin : s.inService = true := by simpa using hin
    split
    · exact s.lawsKept_reply _ _
    · split
      · exact s.lawsKept_reply _ _
      · rename_i mode hform
        split
        · rename_i hgate
          obtain ⟨hlow, hhigh⟩ := clampPreset_range n
          have harmed := s.armedForm_of_armForm hform hgate
          generalize clampPreset n = preset at hlow hhigh ⊢
          have hstart : s.LockLaw → s.LockRecordLaw ((s.lock index).start mode gate preset) := fun hl =>
            ⟨⟨⟨hlow, hhigh, harmed⟩, by dsimp only [LockRecord.start]; omega, le_refl _, rfl, fun p hp => by cases hp⟩,
              (hl.1 index).2⟩
          unfold arm
          dsimp only []
          split
          · rename_i hrunning
            split
            · rename_i hsame
              refine lawsKept_setLockReply (r := { s.lock index with
                timer := { (s.lock index).timer with pending := some preset } }) hin (fun hl => ⟨?_, (hl.1 index).2⟩) _ _
              obtain ⟨harm, h1, h2, h3, -⟩ := State.TimerLaw.of_running (hl.1 index).1 hrunning
              unfold State.TimerLaw
              dsimp only []
              rw [hrunning]
              refine ⟨harm, h1, h2, h3, ?_⟩
              rintro p ⟨⟩
              exact ⟨hsame.1, hlow, hhigh⟩
            · exact s.lawsKept_reply _ _
          · exact lawsKept_setLockReply hin hstart _ _
          · exact lawsKept_setLockReply hin hstart _ _
        · exact s.lawsKept_reply _ _

theorem lawsKept_lockCancelEvent (index : Nat) : s.LawsKept (s.lockCancelEvent index) := by
  unfold lockCancelEvent
  split
  · exact s.lawsKept_reply _ _
  · rename_i hin
    split
    · exact s.lawsKept_reply _ _
    · unfold cancelLock
      dsimp only []
      split
      · exact s.lawsKept_reply _ _
      · rename_i hbusy
        refine lawsKept_setLockReply (by simpa using hin) (fun hl => ⟨s.timerLaw_idle, ?_⟩) _ _
        rintro x ⟨⟩
        exact State.TimerLaw.remaining_range (hl.1 index).1 hbusy

theorem lawsKept_lockReadEvent (first count : Nat) : s.LawsKept (s.lockReadEvent first count) := by
  unfold lockReadEvent
  split
  · exact s.lawsKept_reply _ _
  · rename_i hin
    split
    · exact s.lawsKept_reply _ _
    · refine .trans (lawsKept_mapLocks (fun k hk => ?_) fun _ hm => ?_) (lawsKept_reply _ _ _)
      · split
        · exact ⟨hk.1, fun x hx => by cases hx⟩
        · exact hk
      · rw [inService_iff.mp (by simpa using hin)] at hm
        simp at hm

variable {s} in
/-- A lock image taken in JOINING: its records pass the checks of R90. -/
theorem lawsKept_takeImage {ts : List LockTimer} (hmode : s.lane.mode = some .joining)
    (hfits : ∀ t ∈ ts, s.TimerLaw t) : s.LawsKept (s.takeImage ts) := by
  refine lawsKept_mapLocks (fun k hk => ⟨?_, fun x hx => by cases hx⟩) fun _ hm => by rw [hmode] at hm; simp at hm
  dsimp only []
  cases ht : ts[k]? with
  | none => exact hk.1
  | some t => exact hfits t (List.mem_of_getElem? ht)

end State
end Sys2Proof.Machine
end

section
/-! The vote unit, the receiver of the transfer engine and the frames of the links keep the laws (chapters 6, 8, 9). -/

namespace Sys2Proof.Machine
namespace State

variable (s : State)

/-! ### What two states with one view share -/

variable {s} in
theorem mode_of_view {t : State} (h : t.lawView = s.lawView) : t.lane.mode = s.lane.mode :=
  congrArg (fun u => u.lane.mode) h

variable {s} in
theorem inService_of_view {t : State} (h : t.lawView = s.lawView) : t.inService = s.inService := by
  rw [← inService_lawView, h, inService_lawView]

variable {s} in
theorem opening_of_view {t : State} (h : t.lawView = s.lawView) : t.opening.isSome = s.opening.isSome := by
  have := congrArg (fun u => u.opening.isSome) h
  simpa [State.lawView] using this

theorem lawsKept_putControl (port : LinkPort) (b : LinkBody) : s.LawsKept (s.putControl port b) :=
  .of_view (s.lawView_putControl port b)
theorem lawsKept_checkFail (port : LinkPort) : s.LawsKept (s.checkFail port) := .of_view (s.lawView_checkFail port)
theorem lawsKept_raise (d : Detail) : s.LawsKept (s.raise d) := .of_view rfl
theorem lawsKept_setPeer (port : LinkPort) (p : PeerRecord) : s.LawsKept (s.setPeer port p) :=
  .of_view (s.lawView_setPeer port p)
theorem lawsKept_setLink (port : LinkPort) (l : Link) : s.LawsKept (s.setLink port l) :=
  .of_view (s.lawView_setLink port l)

/-! ### The verdict -/

variable {s} in
/-- The deadline runs in SERVICE, so that starting it afresh changes nothing that the laws look at (R122). -/
theorem lawsKept_startDeadline (hin : s.inService = true) : s.LawsKept s.startDeadline := .of_law fun h => by
  obtain ⟨-, -, hdeadline, -, -, -, -, -, -⟩ := h
  obtain ⟨d, hd⟩ := Option.isSome_iff_exists.mp (hdeadline.trans hin)
  refine .of_view ?_
  unfold startDeadline State.lawView
  rw [hd]
  rfl

variable {s} in
theorem lawsKept_confirm (hin : s.inService = true) : s.LawsKept s.confirm := by
  unfold confirm
  split
  · exact .refl s
  · refine .of_fields (fun h => ?_) (fun _ hm => hm) (.inr ⟨rfl, rfl⟩)
    obtain ⟨-, -, hdeadline, hvote, hwindow, hserve, hjoin, hopen, hsweep⟩ := h
    exact ⟨fun _ => ⟨hin, rfl⟩, fun _ => hin, hdeadline, hvote, hwindow, hserve, hjoin, hopen, hsweep⟩

variable {s} in
theorem lawsKept_applyVerdict (hin : s.inService = true) (v : VerdictRecord) : s.LawsKept (s.applyVerdict v) := by
  unfold applyVerdict
  split
  · refine ((lawsKept_startDeadline hin).trans ?_).trans (lawsKept_verdictHanded _ _ _)
    exact .trans (t := { s.startDeadline with health := { s.startDeadline.health with degraded := v.participants == 2 } })
      (.of_view rfl) (lawsKept_confirm (s := { s.startDeadline with
        health := { s.startDeadline.health with degraded := v.participants == 2 } }) hin)
  · exact ((lawsKept_startDeadline hin).trans (lawsKept_raise _ _)).trans (lawsKept_verdictHanded _ _ _)
  all_goals exact s.lawsKept_stopRequest _ _

variable {s} in
/-- A decision in SERVICE closes the vote and acts on the lane and the engine (R105). -/
theorem lawsKept_decideVote (hin : s.inService = true) : s.LawsKept s.decideVote := by
  have hcounted : ((s.countMiss .u).countMiss .v).lawView = s.lawView :=
    (lawView_countMiss _ _).trans (s.lawView_countMiss _)
  unfold decideVote
  generalize (s.countMiss .u).countMiss .v = s1 at hcounted ⊢
  dsimp only []
  have hclosed : ∀ (record : VerdictRecord) (pu pv : PeerRecord), s1.LawsKept (dropHeld { s1 with
      vote := { s1.vote with state := .decided, window := none, lastVerdict := some record }
      peerU := pu
      peerV := pv }) := fun record _ _ =>
    (s1.lawsKept_closeVote (v := { s1.vote with state := .decided, window := none, lastVerdict := some record }) (by simp)
      rfl).trans (.of_view rfl)
  refine (LawsKept.of_view hcounted).trans ((hclosed _ _ _).trans (lawsKept_applyVerdict ?_ _))
  exact (inService_of_view hcounted).trans hin

variable {s} in
theorem lawsKept_decideOpened (ho : s.vote.state = .opened) : s.LawsKept s.decideVote :=
  .of_law fun h => lawsKept_decideVote (inService_iff.mpr (h.mode_of_opened ho))

theorem lawsKept_decideIfEarly : s.LawsKept s.decideIfEarly := by
  unfold decideIfEarly
  split
  · rename_i h
    exact lawsKept_decideOpened h.1
  · exact .refl s

/-! ### Closes -/

theorem lawsKept_advance (a : Option Advance) : s.LawsKept { s with advance := a } := .of_view rfl

variable {s} in
/-- The completion of a close in SERVICE opens the vote (R97). -/
theorem lawsKept_completeClose (hin : s.inService = true) (n : Nat) : s.LawsKept (s.completeClose n) := by
  unfold completeClose
  extract_lets list vote s1 s2 s3 vote3 s4
  have h1 : s.LawsKept s1 := by
    refine .trans (t := { s with vote := s1.vote }) ?_ (.of_view rfl)
    refine .of_law fun h => ?_
    have ⟨_, _, _, _, hwindow, _, _, _, _⟩ := h
    exact s.lawsKept_vote (fun _ => hin) hwindow
  have h2 : s1.LawsKept s2 := (lawsKept_putControl _ _ _).trans (lawsKept_putControl _ _ _)
  have h3 : s2.LawsKept s3 := lawsKept_closeCompleted _ _
  have h4 : s3.LawsKept s4 := by
    refine lawsKept_vote _ (fun _ => ?_) fun _ => rfl
    dsimp only [s3]
    rw [closeCompleted_eq]
    exact hin
  exact (((h1.trans h2).trans h3).trans h4).trans (lawsKept_decideIfEarly _)

theorem lawsKept_acceptClose (cycle : Nat) : s.LawsKept (s.acceptClose cycle) := by
  unfold acceptClose
  extract_lets s1
  have hdecide : s.LawsKept s1 := by
    dsimp only [s1]
    split
    · exact lawsKept_decideOpened ‹_›
    · exact .refl s
  clear_value s1
  split
  · exact hdecide.trans (lawsKept_advance _ _)
  · exact hdecide.trans (lawsKept_reply _ _ _)

theorem lawsKept_closeEvent (cycle : Nat) : s.LawsKept (s.closeEvent cycle) := by
  unfold closeEvent
  split
  · exact s.lawsKept_reply _ _
  · split
    · exact s.lawsKept_reply _ _
    · split
      · exact s.lawsKept_reply _ _
      · exact s.lawsKept_acceptClose _

theorem lawsKept_readGate (a : Advance) (gate : Nat) (rest : List Nat) : s.LawsKept (s.readGate a gate rest) := by
  unfold readGate
  split
  · rename_i hread
    exact (lawsKept_of_readWord hread).trans (lawsKept_advance _ _)
  · rename_i s1 hread
    have hended : s.LawsKept { s1 with advance := none } := (lawsKept_of_readWord hread).trans (lawsKept_advance _ none)
    unfold abandonClose
    split
    · exact hended.trans (lawsKept_warmRestart_of_due _ ‹_›)
    · exact hended.trans (lawsKept_reply _ _ _)

theorem stepLocks_eq (values : List (Nat × Word)) : s.stepLocks values = { s with
    locks := (s.stepLocks values).locks
    attention := (s.stepLocks values).attention } := by
  have hfold : ∀ (l : List Nat) (t : State), l.foldl (stepLock values) t = { t with
      locks := (l.foldl (stepLock values) t).locks
      attention := (l.foldl (stepLock values) t).attention } := by
    intro l
    induction l with
    | nil => exact fun t => rfl
    | cons k l ih =>
      intro t
      rw [List.foldl_cons, ih, stepLock_eq]
  exact hfold (List.range 48) s

theorem lawsKept_endAdvance (a : Advance) : s.LawsKept (s.endAdvance a) := by
  have hstepped := s.lawsKept_stepLocks a.values
  have hdue : (s.stepLocks a.values).restartDue = s.restartDue := by rw [stepLocks_eq]
  unfold endAdvance
  generalize s.stepLocks a.values = s0 at hstepped hdue ⊢
  replace hstepped := hstepped.trans (lawsKept_advance s0 none)
  dsimp only []
  split
  · rename_i h
    exact hstepped.trans (lawsKept_warmRestart_of_due _ (hdue.trans h))
  · split
    · exact (hstepped.trans (lawsKept_completeClose ‹_› _)).trans (lawsKept_reply _ _ _)
    · exact hstepped.trans (lawsKept_reply _ _ _)

/-! ### The receiver -/

/-- A join record counts by its presence alone (R133). -/
theorem lawView_mapJoin (f : Join → Join) : ({ s with join := s.join.map f } : State).lawView = s.lawView := by
  unfold State.lawView
  simp only [Option.map_map]
  rfl

variable {s} in
theorem lawsKept_join {j : Join} (h : s.join = some j) (j' : Join) : s.LawsKept { s with join := some j' } :=
  .of_view (lawView_join h j')

variable {s} in
theorem lawsKept_startAttempt {j : Join} (h : s.join = some j) (j' : Join) (port : LinkPort) :
    s.LawsKept (s.startAttempt j' port) := (lawsKept_join h _).trans (lawsKept_putControl _ _ _)

theorem lawsKept_peerHeard (port : LinkPort) : s.LawsKept (s.peerHeard port) := by
  unfold peerHeard
  split
  · exact .refl s
  · rename_i hj
    dsimp only []
    split
    · exact lawsKept_startAttempt hj _ _
    · exact lawsKept_join hj _
    · exact lawsKept_join hj _

theorem lawsKept_failAttempt (r : RestoreReason) (a : Option RestoreReason) : s.LawsKept (s.failAttempt r a) := by
  unfold failAttempt
  split
  · exact .refl s
  · rename_i j hj
    split
    · exact .refl s
    · rename_i port _
      extract_lets s1 heard j1 s2
      have hfailed : s.LawsKept s2 := by
        refine .trans (t := s1) ?_ (.trans (lawsKept_join (j := j) ?_ j1) (lawsKept_raise _ _))
        · dsimp only [s1]
          split
          · exact s.lawsKept_putControl _ _
          · exact .refl s
        · dsimp only [s1]
          split
          · rw [putControl_eq]; exact hj
          · exact hj
      have hj2 : s2.join = some j1 := rfl
      clear_value s2
      split
      · exact hfailed.trans (lawsKept_stopRequest _ _ _)
      · split
        · exact hfailed.trans (lawsKept_startAttempt hj2 _ _)
        · exact hfailed

variable {s} in
theorem lawsKept_restartSilence {j : Join} (h : s.join = some j) (j' : Join) : s.LawsKept (s.restartSilence j') :=
  lawsKept_join h _

theorem lawsKept_digestTaken (port : LinkPort) (m : Nat) (c : Bool) (l : DigestList) :
    s.LawsKept (s.digestTaken port m c l) := by
  unfold digestTaken
  dsimp only []
  split
  · split
    · exact (s.lawsKept_setPeer _ _).trans (lawsKept_decideIfEarly _)
    · split
      · split
        · exact s.lawsKept_setPeer _ _
        · exact (s.lawsKept_setPeer _ _).trans (lawsKept_raise _ _)
      · exact (s.lawsKept_setPeer _ _).trans (lawsKept_raise _ _)
  · split
    · exact (s.lawsKept_setPeer _ _).trans (lawsKept_peerHeard _ _)
    · exact s.lawsKept_setPeer _ _

theorem lawsKept_digestReceived (port : LinkPort) (sender m : Nat) (c : Option Bool) (l : Option DigestList) :
    s.LawsKept (s.digestReceived port sender m c l) := by
  unfold digestReceived
  split
  · split
    · exact s.lawsKept_digestTaken _ _ _ _
    · exact s.lawsKept_checkFail _
  · exact s.lawsKept_checkFail _

theorem lawsKept_offerReceived (port : LinkPort) (pages : Nat) : s.LawsKept (s.offerReceived port pages) := by
  unfold offerReceived
  split
  · exact s.lawsKept_putControl _ _
  · rename_i hj
    split
    · split
      · exact lawsKept_restartSilence hj _
      · exact (lawsKept_restartSilence hj _).trans (lawsKept_failAttempt _ _ _)
    · exact s.lawsKept_putControl _ _

theorem lawsKept_declineReceived (port : LinkPort) (reason : Option RestoreReason) :
    s.LawsKept (s.declineReceived port reason) := by
  unfold declineReceived
  split
  · split
    · exact .refl s
    · exact s.lawsKept_checkFail _
  · rename_i hj
    extract_lets s1
    have hsilence : s.LawsKept s1 := by
      dsimp only [s1]
      split
      · exact lawsKept_restartSilence hj _
      · exact .refl s
    clear_value s1
    split
    · split
      · exact hsilence.trans (lawsKept_failAttempt _ _ _)
      · exact hsilence
    · exact hsilence.trans (lawsKept_checkFail _ _)

theorem lawsKept_abortReceived (port : LinkPort) (reason : Option RestoreReason) :
    s.LawsKept (s.abortReceived port reason) := by
  unfold abortReceived
  extract_lets ours s1
  have hsilence : s.LawsKept s1 := by
    dsimp only [s1]
    split
    · split
      · exact lawsKept_restartSilence ‹_› _
      · exact .refl s
    · exact .refl s
  clear_value s1
  split
  · exact hsilence.trans (lawsKept_checkFail _ _)
  · split
    · exact hsilence.trans (lawsKept_endServe _ _ _)
    · split
      · exact hsilence.trans (lawsKept_failAttempt _ _ _)
      · split
        · exact hsilence.trans (lawsKept_setPeer _ _ _)
        · exact hsilence

theorem lawsKept_pageReceived (port : LinkPort) (page offset : Nat) (words : List Word) :
    s.LawsKept (s.pageReceived port page offset words) := by
  have hstale : s.LawsKept (if offset = 0 then s.putControl port (.joinAbort .stale) else s) := by
    split
    · exact s.lawsKept_putControl _ _
    · exact .refl s
  unfold pageReceived
  split
  · rename_i j hj
    split
    · have hsilence := lawsKept_restartSilence hj j
      dsimp only []
      split
      · exact hsilence.trans (.of_view ((lawView_mapJoin _ _).trans (lawView_writeRun _ _ _ _)))
      · exact hsilence.trans (lawsKept_failAttempt _ _ _)
    · exact hstale
  · exact hstale

theorem lawsKept_imageReceived (port : LinkPort) (timers : Option (List LockTimer)) :
    s.LawsKept (s.imageReceived port timers) := by
  unfold imageReceived
  extract_lets s1
  have hsilence : s.lawView = s1.lawView := by
    dsimp only [s1]
    split
    · split
      · exact (lawView_join ‹_› _).symm
      · rfl
    · rfl
  have hkept : s.LawsKept s1 := .of_view hsilence.symm
  clear_value s1
  split
  · exact hkept.trans (lawsKept_checkFail _ _)
  · rename_i ts
    split
    · rename_i j hj
      split
      · split
        · rename_i hfits
          simp only [Bool.and_eq_true, List.all_eq_true, timerFits_iff] at hfits
          refine hkept.trans (.of_law fun h => ?_)
          refine (lawsKept_takeImage (h.mode_of_join hj) fun t ht => ?_).trans (lawsKept_join (s := s1.takeImage ts) hj _)
          have hvital := isVital_congr (congrArg State.regions hsilence)
          simpa only [TimerLaw, ArmedLaw, hvital] using hfits.2 t ht
        · exact hkept.trans (lawsKept_failAttempt _ _ _)
      · exact hkept.trans (lawsKept_putControl _ _ _)
    · exact hkept.trans (lawsKept_putControl _ _ _)

variable {s} in
/-- A join that completes enters SERVICE from JOINING (R152). -/
theorem lawsKept_completeJoin {j : Join} (hj : s.join = some j) (n : Nat) : s.LawsKept (s.completeJoin n) := by
  have hview : ((List.range 16).foldl restoreRegion s).selectIfWaiting.lawView = s.lawView :=
    (lawView_selectIfWaiting _).trans (lawView_foldl (fun t => t) (fun t i => t.lawView_restoreRegion i) _ s)
  unfold completeJoin
  generalize ((List.range 16).foldl restoreRegion s).selectIfWaiting = s1 at hview ⊢
  refine .of_law fun h => ?_
  have hmode : s1.lane.mode = some .joining := (mode_of_view hview).trans (h.mode_of_join hj)
  have hopening : s1.opening = none := by
    have := opening_of_view hview
    rw [h.opening_none (.inr (h.mode_of_join hj))] at this
    simpa using this
  have hclosed := s1.lawsKept_closeVote (v := VoteUnit.openedAt n) (by simp [VoteUnit.openedAt]) rfl
  refine ((LawsKept.of_view hview).trans hclosed).trans (.trans (lawsKept_enterService
    (s := { s1 with vote := VoteUnit.openedAt n }) (.inr (.inr hmode)) (s1.time + s1.config.deadline)) (.of_view ?_))
  rw [← hopening]
  rfl

theorem lawsKept_syncReceived (port : LinkPort) (n : Nat) (list : Option DigestList) :
    s.LawsKept (s.syncReceived port n list) := by
  unfold syncReceived
  split
  · rename_i hj
    split
    · split
      · exact lawsKept_completeJoin hj _
      · exact (lawsKept_restartSilence hj _).trans (lawsKept_failAttempt _ _ _)
    · exact s.lawsKept_putControl _ _
  · exact s.lawsKept_putControl _ _

/-! ### Arriving link frames -/

theorem lawsKept_handFrame (port : LinkPort) (f : Received) : s.LawsKept (s.handFrame port f) := by
  cases f with
  | idleFill => exact .refl s
  | digest sender cycle confirmed list => exact s.lawsKept_digestReceived _ _ _ _ _
  | joinAsk sender => exact s.lawsKept_joinAsked _ _
  | joinOffer pages => exact s.lawsKept_offerReceived _ _
  | joinDecline reason => exact s.lawsKept_declineReceived _ _
  | joinAbort reason => exact s.lawsKept_abortReceived _ _
  | page page offset words => exact s.lawsKept_pageReceived _ _ _ _
  | lockImage timers => exact s.lawsKept_imageReceived _ _
  | syncMark cycle list => exact s.lawsKept_syncReceived _ _ _

theorem lawsKept_receiveWord (port : LinkPort) (w : Word) : s.LawsKept (receiveWord port s w) := by
  unfold receiveWord
  split
  · split
    · exact s.lawsKept_setLink _ _
    · exact .refl s
  · dsimp only []
    split
    · refine (s.lawsKept_setLink port { s.link port with rx := [] }).trans ?_
      unfold checkFrame
      split
      · exact (LawsKept.of_view (lawView_heardLink _ _)).trans (lawsKept_handFrame _ _ _)
      · exact lawsKept_checkFail _ _
    · exact s.lawsKept_setLink _ _

theorem lawsKept_linkDown (port : LinkPort) : s.LawsKept (s.linkDown port) := by
  have hdown : s.LawsKept ((s.setLink port { s.link port with up := false, timer := none }).raise
      (.link (s.peerLane port) .down)) := (s.lawsKept_setLink _ _).trans (lawsKept_raise _ _)
  unfold linkDown
  dsimp only []
  split
  · exact hdown.trans (lawsKept_endServe _ _ _)
  · exact hdown

end State
end Sys2Proof.Machine
end

section
/-! Requests, the host port, OPENs, configuration and the image keep the laws (chapters 2, 7, 11). -/

namespace Sys2Proof.Machine
namespace State

variable (s : State)

/-! ### Requests taken into service -/

variable {s} in
/-- During the sweep no request but STATUS is taken into service (R176). -/
theorem lawsKept_serve1 {kind : Nat} (hkind : s.sweeping = true → kind = 1) (tag : Nat) (c : Option Instr) :
    s.LawsKept (s.serve1 kind tag c) := by
  refine .of_fields (fun h => ?_) (fun _ hm => hm) (.inr ⟨rfl, rfl⟩)
  obtain ⟨hwave, hconfirmed, hdeadline, hvote, hwindow, hserve, hjoin, hopen, hsweep⟩ := h
  refine ⟨hwave, hconfirmed, hdeadline, hvote, hwindow, hserve, hjoin, hopen, fun hs => ?_⟩
  obtain ⟨hmode, hdue, hregions, -⟩ := hsweep hs
  refine ⟨hmode, hdue, hregions, ?_⟩
  rintro v ⟨⟩
  exact hkind hs

theorem lawsKept_answerNow (kind tag : Nat) (o : ReplyOutcome) : s.LawsKept (s.answerNow kind tag o) :=
  .of_view (s.lawView_answerNow _ _ _)

theorem lawsKept_judge (kind tag : Nat) (ok : Bool) (c : Option Instr) : s.LawsKept (s.judge kind tag ok c) := by
  unfold judge
  split
  · exact .of_view (s.lawView_owe _ _ _ _)
  · unfold judgeIdle
    split
    · exact s.lawsKept_answerNow _ _ _
    · split
      · exact s.lawsKept_answerNow _ _ _
      · split
        · exact s.lawsKept_answerNow _ _ _
        · rename_i hbusy
          have hkind : s.sweeping = true → kind = 1 := fun hs => by_contra fun hk => hbusy ⟨hs, hk⟩
          split
          · exact lawsKept_serve1 hkind _ _
          · unfold refuseCode
            split <;> exact (lawsKept_serve1 hkind _ _).trans (lawsKept_reply _ _ _)

theorem lawsKept_arrive (c : Instr) : s.LawsKept (s.arrive c) := by
  unfold arrive
  split
  · exact .refl s
  · split
    · exact .of_view s.lawView_badFrame
    · exact s.lawsKept_judge _ _ _ _

/-- A request row keeps the laws if the event of its block does (log 3). -/
theorem lawsKept_request (c : Instr) {own : State → State} (hown : ∀ t : State, t.LawsKept (own t)) :
    s.LawsKept (s.request c own) := by
  unfold request
  split
  · exact (LawsKept.of_view s.lawView_takeUp).trans (hown _)
  · dsimp only []
    split
    · exact (s.lawsKept_arrive c).trans ((LawsKept.of_view (lawView_takeUp _)).trans (hown _))
    · exact s.lawsKept_arrive c

theorem lawsKept_receiveByte (b : Byte) : s.LawsKept (s.receiveByte b) := by
  unfold receiveByte
  split
  · split
    · exact .of_view (s.lawView_setHostRx _)
    · exact .refl s
  · dsimp only []
    split
    · exact .of_view ((lawView_setHostRx _ _).trans ((lawView_badFrame _).trans (s.lawView_setHostRx _)))
    · split
      · refine (LawsKept.of_view (s.lawView_setHostRx [])).trans ?_
        unfold checkHostFrame
        dsimp only []
        split
        · exact lawsKept_judge _ _ _ _ _
        · exact .of_view (lawView_badFrame _)
      · exact .of_view (s.lawView_setHostRx _)

/-! ### The ends of answers -/

theorem HostPort.next_service (p : HostPort) : p.next.service = p.service := by
  unfold HostPort.next
  split <;> rfl

theorem lawsKept_nextAnswer (p : HostPort) (h : p.service = s.port.service) :
    s.LawsKept { s with port := p.next } := .of_view (s.lawView_port (by rw [HostPort.next_service, h]))

/-- The end of a reply frees the port; after the reply of a RESTART, which is no request of the sweep, the warm restart acts
(R174, R176, R185). -/
theorem lawsKept_replyEnded : s.LawsKept s.replyEnded := by
  unfold replyEnded
  extract_lets isRestart port s1 s2
  have hquiet : s.LawsKept s1 := .of_view rfl
  have hended : s.LawsKept s2 := by
    dsimp only [s2]
    split
    · rename_i hrestart
      refine .of_law fun h => hquiet.trans (s1.lawsKept_warmRestart ?_)
      obtain ⟨-, -, -, -, -, -, -, -, hsweep⟩ := h
      by_contra hs
      obtain ⟨-, -, -, hkind⟩ := hsweep (Option.isSome_iff_ne_none.mpr hs)
      dsimp only [isRestart] at hrestart
      split at hrestart
      · rename_i v hv
        rw [hkind v hv] at hrestart
        simp at hrestart
      · cases hrestart
    · refine hquiet.trans (.of_fields (fun h => ?_) (fun _ hm => hm) (.inr ⟨rfl, rfl⟩))
      obtain ⟨hwave, hconfirmed, hdeadline, hvote, hwindow, hserve, hjoin, hopen, hsweep⟩ := h
      refine ⟨hwave, hconfirmed, hdeadline, hvote, hwindow, hserve, hjoin, hopen, fun hs => ?_⟩
      obtain ⟨hmode, hdue, hregions, -⟩ := hsweep hs
      exact ⟨hmode, hdue, hregions, fun v hv => by cases hv⟩
  exact hended.trans (lawsKept_nextAnswer _ _ rfl)

/-! ### Attention, configuration and the modes -/

theorem lawsKept_attentionReply (a : Attention) (o : ReplyOutcome) (bs : List Byte) :
    s.LawsKept (({ s with attention := a } : State).reply o bs) :=
  .trans (t := { s with attention := a }) (.of_view rfl) (lawsKept_reply _ _ _)

theorem lawsKept_doneClassEvent (cls : Nat) : s.LawsKept (s.doneClassEvent cls) := by
  unfold doneClassEvent
  split
  · exact s.lawsKept_reply _ _
  · split
    · exact s.lawsKept_attentionReply _ _ _
    · exact s.lawsKept_reply _ _

theorem lawsKept_doneNoClassEvent : s.LawsKept s.doneNoClassEvent := by
  unfold doneNoClassEvent
  split
  · exact s.lawsKept_attentionReply _ _ _
  · exact s.lawsKept_reply _ _

theorem lawsKept_takeEvent : s.LawsKept s.takeEvent := by
  unfold takeEvent
  split
  · exact s.lawsKept_attentionReply _ _ _
  · exact s.lawsKept_reply _ _

theorem lawsKept_setLowestEvent (cls : Nat) : s.LawsKept (s.setLowestEvent cls) := by
  unfold setLowestEvent
  split
  · exact s.lawsKept_reply _ _
  · exact s.lawsKept_attentionReply _ _ _

theorem lawsKept_framesEvent (first count : Nat) : s.LawsKept (s.framesEvent first count) := by
  unfold framesEvent
  split <;> exact s.lawsKept_reply _ _

theorem lawsKept_stopEvent : s.LawsKept s.stopEvent := by
  unfold stopEvent
  split
  · exact (s.lawsKept_stopRequest _ _).trans (lawsKept_reply _ _ _)
  · exact s.lawsKept_reply _ _

variable {s} in
/-- In OFFLINE the regions and the configuration may change: no lock runs and no serve stands, so that no law looks at them
(R22, R23, R91, R180). -/
theorem lawsKept_offline {t : State} (hmode : s.lane.mode = some .offline)
    (h : ({ t.lawView with regions := s.lawView.regions, config := s.lawView.config } : State) = s.lawView) :
    s.LawsKept t := by
  have hlane : t.lane.mode = s.lane.mode := congrArg (fun u => u.lane.mode) h
  have hlocks : t.locks = s.locks := (congrArg State.locks h :)
  have hserve : t.serve = s.serve := (congrArg State.serve h :)
  refine ⟨fun hs => ?_, fun hs hl => ?_, fun hs _ v hv => ?_⟩
  · have hsweep : t.lawView.sweep = none := by
      rw [show t.lawView.sweep = s.lawView.sweep from (congrArg State.sweep h :)]
      simp [State.lawView, hs.sweep_none (by simp [hmode])]
    have hs' := s.laneLaw_lawView.mpr hs
    rw [← h] at hs'
    obtain ⟨hwave, hconfirmed, hdeadline, hvote, hwindow, hserve, hjoin, hopen, -⟩ := hs'
    exact t.laneLaw_lawView.mp ⟨hwave, hconfirmed, hdeadline, hvote, hwindow, hserve, hjoin, hopen, fun hc => by
      rw [hsweep] at hc; cases hc⟩
  · have hidle := hl.2 (.inr hmode)
    refine ⟨fun k => ?_, fun _ k => ?_⟩
    · rw [show t.lock k = s.lock k from congrArg (fun l => tableGet l k LockRecord.cleared) hlocks]
      have hrecord := (hl.1 k).1
      unfold TimerLaw at hrecord ⊢
      rw [hidle k] at hrecord ⊢
      exact ⟨hrecord, (hl.1 k).2⟩
    · rw [show t.lock k = s.lock k from congrArg (fun l => tableGet l k LockRecord.cleared) hlocks]
      exact hidle k
  · rw [hserve, hs.serve_none (by simp [hmode])] at hv
    cases hv

theorem lawView_configure (c : LaneConfig) :
    (s.configure c).lawView = { s.lawView with config := { LaneConfig.default with finalLimit := c.finalLimit } } := by
  unfold configure
  extract_lets s1 s2
  have hset : s2.lawView = s1.lawView := by
    dsimp only [s2]
    split <;> rfl
  clear_value s2
  split
  · exact (lawView_selectIfWaiting _).trans hset
  · exact hset

theorem lawsKept_configLaneEvent (v : LaneValues) : s.LawsKept (s.configLaneEvent v) := by
  unfold configLaneEvent
  split
  · exact s.lawsKept_reply _ _
  · rename_i hmode
    split
    · exact s.lawsKept_reply _ _
    · refine (lawsKept_offline (isOffline_iff.mp (by simpa using hmode)) ?_).trans (lawsKept_reply _ _ _)
      rw [lawView_configure]

/-- A region undefined changes the regions alone of what the laws look at (R23). -/
theorem lawView_clearRegion (id : Nat) :
    ({ (s.clearRegion id).lawView with regions := s.lawView.regions } : State) = s.lawView := by
  unfold clearRegion
  split
  · rename_i r _
    have hpages : (r.pages.foldl unmapPage s).lawView = s.lawView := lawView_foldl (fun t => t) lawView_unmapPage _ s
    unfold unmapRegion
    rw [lawView_endPassOn]
    generalize r.pages.foldl unmapPage s = s1 at hpages ⊢
    rw [← hpages]
    rfl
  · rfl

theorem lawsKept_configRegionEvent (id first count code seed : Nat) :
    s.LawsKept (s.configRegionEvent id first count code seed) := by
  unfold configRegionEvent
  split
  · exact s.lawsKept_reply _ _
  · rename_i hmode
    split
    · exact s.lawsKept_reply _ _
    · split
      · refine (lawsKept_offline (isOffline_iff.mp (by simpa using hmode)) ?_).trans (lawsKept_reply _ _ _)
        have hcleared := s.lawView_clearRegion id
        generalize s.clearRegion id = s1 at hcleared ⊢
        exact congrArg (fun u : State => { u with config := s.lawView.config }) hcleared
      · exact s.lawsKept_reply _ _

theorem lawsKept_configRegionClearEvent (id : Nat) : s.LawsKept (s.configRegionClearEvent id) := by
  unfold configRegionClearEvent
  split
  · exact s.lawsKept_reply _ _
  · rename_i hmode
    split
    · exact s.lawsKept_reply _ _
    · refine (lawsKept_offline (isOffline_iff.mp (by simpa using hmode)) ?_).trans (lawsKept_reply _ _ _)
      exact congrArg (fun u : State => { u with config := s.lawView.config }) (s.lawView_clearRegion id)

/-! ### OPEN -/

variable {s} in
theorem lawsKept_openTaken (hmode : s.lane.mode = some .offline ∨ s.lane.mode = some .stopped) (kind : OpenKind) :
    s.LawsKept (s.openTaken kind) := by
  unfold openTaken
  dsimp only []
  split
  · exact s.lawsKept_reply _ _
  · exact (lawsKept_beginOpening hmode _).trans (.of_view rfl)

theorem lawsKept_openColdEvent : s.LawsKept s.openColdEvent := by
  unfold openColdEvent
  split
  · exact lawsKept_openTaken (.inl (isOffline_iff.mp ‹_›)) _
  · exact s.lawsKept_reply _ _

theorem lawsKept_openJoinEvent : s.LawsKept s.openJoinEvent := by
  unfold openJoinEvent
  split
  · rename_i hmode
    exact lawsKept_openTaken (by simpa [State.isOffline] using hmode) _
  · exact s.lawsKept_reply _ _

/-- The settings of an OPEN keep the laws, and leave the lane and the OPEN under way (R31, R91, R114). -/
theorem openSettings_kept (kind : OpenKind) (before : Nat → Bool) :
    s.LawsKept (s.openSettings kind before) ∧ (s.openSettings kind before).lane.mode = s.lane.mode ∧
      (s.openSettings kind before).opening.isSome = s.opening.isSome := by
  have hview : ((List.range 16).foldl (openRegion kind before) s).lawView = s.lawView :=
    lawView_foldl (fun t => t) (fun t i => t.lawView_openRegion kind before i) _ s
  unfold openSettings
  generalize (List.range 16).foldl (openRegion kind before) s = s1 at hview ⊢
  refine ⟨((LawsKept.of_view hview).trans (lawsKept_clearLocks s1)).trans ?_, (mode_of_view hview :),
    (opening_of_view hview :)⟩
  exact (s1.clearLocks.lawsKept_closeVote (v := VoteUnit.openedAt 0) (by simp [VoteUnit.openedAt]) rfl).trans (.of_view rfl)

variable {s} in
theorem opens_of_opening (h : s.LaneLaw) (ho : s.opening.isSome) : s.opens := by
  obtain ⟨o, ho⟩ := Option.isSome_iff_exists.mp ho
  obtain hm | hm := h.mode_of_opening ho
  · exact .inl hm
  · exact .inr (.inl hm)

variable {s} in
theorem lawsKept_joinOpened (ho : s.opening.isSome) (n : Nat) : s.LawsKept (s.joinOpened n) := .of_law fun h =>
  (lawsKept_enterJoining (opens_of_opening h ho) Join.begin).trans (lawsKept_reply _ _ _)

variable {s} in
theorem lawsKept_coldOpened (ho : s.opening.isSome) (n : Nat) : s.LawsKept (s.coldOpened n) := .of_law fun h =>
  (lawsKept_enterService (opens_of_opening h ho) _).trans (lawsKept_reply _ _ _)

variable {s} in
/-- An OPEN under way goes on: it counts by its presence alone (R117). -/
theorem lawsKept_setOpening (ho : s.opening.isSome) (o : Opening) : s.LawsKept { s with opening := some o } := by
  obtain ⟨p, hp⟩ := Option.isSome_iff_exists.mp ho
  refine .of_view ?_
  unfold State.lawView
  rw [hp]
  rfl

variable {s} in
theorem lawsKept_mappingEnded (ho : s.opening.isSome) (o : Opening) : s.LawsKept (s.mappingEnded o) := by
  have hmapped := s.lawView_mapAll o.kind
  unfold mappingEnded
  generalize s.mapAll o.kind = s0 at hmapped ⊢
  dsimp only []
  split
  · rename_i hdue
    exact (LawsKept.of_view hmapped).trans (s0.lawsKept_warmRestart_of_due ((congrArg State.restartDue hmapped).trans hdue))
  · obtain ⟨hkept, -, hopening⟩ := s0.openSettings_kept o.kind fun p => (s.page p).mapped
    rw [opening_of_view hmapped] at hopening
    generalize s0.openSettings o.kind (fun p => (s.page p).mapped) = s1 at hkept hopening ⊢
    have hset := (LawsKept.of_view hmapped).trans hkept
    rw [← hopening] at ho
    split
    · exact hset.trans (lawsKept_joinOpened ho _)
    · exact hset.trans (lawsKept_setOpening ho _)

/-! ### The image -/

theorem lawsKept_run (r : Option HostRun) : s.LawsKept { s with run := r } := .of_view rfl

theorem lawsKept_readEvent (address count : Nat) : s.LawsKept (s.readEvent address count) := by
  unfold readEvent
  split
  · exact s.lawsKept_reply _ _
  · split
    · exact s.lawsKept_reply _ _
    · exact s.lawsKept_run _

theorem lawsKept_writeEvent (address count : Nat) (words : List Word) : s.LawsKept (s.writeEvent address count words) := by
  unfold writeEvent
  split
  · exact s.lawsKept_reply _ _
  · split
    · exact s.lawsKept_reply _ _
    · exact s.lawsKept_run _

theorem lawsKept_readOne (next left : Nat) (delivered : List Word) : s.LawsKept (s.readOne next left delivered) := by
  unfold readOne
  split <;> rename_i hread
  · split
    · exact ((lawsKept_of_readWord hread).trans (lawsKept_run _ _)).trans (lawsKept_reply _ _ _)
    · exact (lawsKept_of_readWord hread).trans (lawsKept_run _ _)
  · exact ((lawsKept_of_readWord hread).trans (lawsKept_run _ _)).trans (lawsKept_reply _ _ _)

theorem SentFrom.regions {s t : State} (h : s.SentFrom t) : t.regions = s.regions := by
  unfold SentFrom at h
  rw [h]

/-- A capture reads the page and fills a slot, and so leaves the regions (R141). -/
theorem isVital_capture (page p : Nat) : (s.capture page).isVital p = s.isVital p := by
  have hregions : (s.capture page).regions = s.regions := by
    unfold capture
    split
    · rfl
    · rename_i v _
      have hread := s.sentFrom_readRun page .capture 256 0
      split
      · split <;> rename_i h <;> rw [h] at hread <;> exact hread.regions
      · rfl
  simp only [State.isVital, State.classOf, regionOf_congr hregions]

theorem lawsKept_hostWrite (page offset : Nat) (w : Word) : s.LawsKept (s.hostWrite page offset w) := by
  unfold hostWrite
  extract_lets s1 s2
  have hcaptured : s.LawsKept s1 ∧ s1.isVital page = s.isVital page := by
    dsimp only [s1]
    split
    · exact ⟨s.lawsKept_capture page, s.isVital_capture page page⟩
    · exact ⟨.refl s, rfl⟩
  have hwritten : s2.lawView = s1.lawView := s1.lawView_writeWord page offset w
  clear_value s1 s2
  have hkept := hcaptured.1.trans (.of_view hwritten)
  split
  · rename_i hv
    refine hkept.trans (lawsKept_markDirty ?_)
    rw [isVital_congr (congrArg State.regions hwritten), hcaptured.2, hv]
  · exact hkept

theorem lawsKept_writeOne (next done : Nat) (w : Word) (rest : List Word) : s.LawsKept (s.writeOne next done w rest) := by
  unfold writeOne
  split
  · exact (s.lawsKept_run _).trans (lawsKept_reply _ _ _)
  · have hword := s.lawsKept_hostWrite (next / 256) (next % 256) w
    dsimp only []
    split
    · exact hword.trans ((lawsKept_run _ _).trans (lawsKept_reply _ _ _))
    · exact hword.trans (lawsKept_run _ _)

theorem lawsKept_fillEvent (page : Nat) (value : Word) : s.LawsKept (s.fillEvent page value) := by
  have hfilled : (s.fillPage page value).lawView = s.lawView := by
    have hwritten := lawView_writeRun page (List.replicate 256 value) s 0
    unfold fillPage
    generalize s.writeRun page 0 (List.replicate 256 value) = s1 at hwritten ⊢
    dsimp only []
    split
    · exact (lawView_restartPassOn _ _).trans hwritten
    · exact hwritten
  unfold fillEvent
  split
  · exact s.lawsKept_reply _ _
  · split
    · exact s.lawsKept_reply _ _
    · split
      · exact s.lawsKept_reply _ _
      · exact (LawsKept.of_view hfilled).trans (lawsKept_reply _ _ _)

theorem lawView_adoptReply (id : Nat) : (s.adoptReply id).lawView = s.lawView := by
  unfold adoptReply
  split
  · exact s.lawView_reply _ _
  · rename_i r hr
    split
    · exact (lawView_reply _ _ _).trans (lawView_adoptRegion (laneRegion_some hr))
    · exact s.lawView_reply _ _

theorem lawsKept_adoptEvent (id : Nat) : s.LawsKept (s.adoptEvent id) := by
  have hreply := s.lawView_adoptReply id
  unfold adoptEvent
  generalize s.adoptReply id = s1 at hreply ⊢
  dsimp only []
  split
  · rename_i hdue
    refine .of_law fun h => (LawsKept.of_view hreply).trans ?_
    have hport : s1.port.service.map InService.kind = s.port.service.map InService.kind := by
      have := congrArg (fun u => u.port.service.map InService.kind) hreply
      simpa only [State.lawView, Option.map_map, Function.comp_def] using this
    refine (LawsKept.of_view (s1.lawView_port hport.symm)).trans (lawsKept_warmRestart_of_due _ ?_)
    exact (congrArg State.restartDue hreply).trans hdue
  · exact .of_view hreply

theorem lawView_disturb (frame offset : Nat) (f : Cell → Cell) : (s.disturb frame offset f).lawView = s.lawView := by
  have hsweep : s.sweepOn.lawView = s.lawView := by
    unfold sweepOn
    split
    · rfl
    · rename_i done hs
      unfold State.lawView
      rw [hs]
      rfl
  exact hsweep

/-! ### Moves -/

theorem lawsKept_takeMove (frame : Nat) (rest : List Nat) : s.LawsKept (s.takeMove frame rest) := by
  refine .of_view ?_
  unfold takeMove
  dsimp only []
  repeat' split
  all_goals rfl

theorem lawsKept_stepMove (page : Nat) : s.LawsKept (s.stepMove page) := by
  unfold stepMove
  split
  next f g c _ _ _ =>
    have hread := s.lawsKept_readCell f page c .move
    generalize s.readCell f page c .move = x at hread ⊢
    obtain ⟨s1, _⟩ := x
    dsimp only [] at hread ⊢
    refine hread.trans (.of_view ?_)
    repeat' split
    all_goals rfl
  all_goals exact .refl s

/-! ### Power -/

theorem lawsKept_poweredOn : s.LawsKept s.poweredOn := by
  have hregion : ∀ id, s.poweredOn.region id = none := fun id => tableGet_replicate 16 id none
  have hlock : ∀ k, s.poweredOn.lock k = LockRecord.cleared := fun k => tableGet_replicate 48 k _
  refine ⟨fun _ => ?_, fun _ _ => ⟨fun k => ?_, fun _ k => ?_⟩, fun _ _ v hv => by cases hv⟩
  · refine ⟨by simp [poweredOn, State.reset], by simp [poweredOn, State.reset], rfl, by simp [poweredOn, State.reset],
      by simp [poweredOn, State.reset], by simp [poweredOn, State.reset], by simp [poweredOn, State.reset],
      by simp [poweredOn, State.reset], fun _ => ⟨rfl, rfl, hregion, fun v hv => by cases hv⟩⟩
  · rw [hlock]; exact ⟨rfl, fun x hx => by cases hx⟩
  · rw [hlock]; rfl

end State
end Sys2Proof.Machine
end

section
/-! Every command keeps the laws of the lane, of the lock table and of the serve record, and so every step does. -/

namespace Sys2Proof.Machine

/-- A command that goes on goes on with a state that keeps the laws. -/
def State.ResultKept (s : State) (r : Result) : Prop := ∀ t, r = .next t → s.LawsKept t

theorem State.LawsKept.next {s t : State} (h : s.LawsKept t) : s.ResultKept (.next t) := fun u hu => by
  cases hu; exact h

namespace State

variable (s : State)

theorem resultKept_refl : s.ResultKept (.next s) := (LawsKept.refl s).next

variable {s} in
/-- A warm restart is put off outside the sweep (R128). -/
theorem lawsKept_putOffRestart (hsweep : s.sweep = none) : s.LawsKept { s with restartDue := true } := by
  refine .of_fields (fun h => ?_) (fun _ hm => hm) (.inr ⟨rfl, rfl⟩)
  obtain ⟨hwave, hconfirmed, hdeadline, hvote, hwindow, hserve, hjoin, hopen, -⟩ := h
  exact ⟨hwave, hconfirmed, hdeadline, hvote, hwindow, hserve, hjoin, hopen, fun hs => by simp [hsweep] at hs⟩

theorem execRestartInput_kept : s.ResultKept (execRestartInput s) := by
  unfold execRestartInput
  split
  · exact s.resultKept_refl
  · rename_i hsweep
    have hsweep : s.sweep = none := by simpa [State.sweeping] using hsweep
    split
    · exact (lawsKept_putOffRestart hsweep).next
    · exact (s.lawsKept_warmRestart hsweep).next

theorem execDisturbance_kept (frame offset : Nat) (f : Cell → Cell) :
    s.ResultKept (if isStoreWord frame offset then .next (s.disturb frame offset f)
      else .fault (.noStoreWord frame offset)) := by
  split
  · exact (LawsKept.of_view (s.lawView_disturb _ _ _)).next
  · intro t ht; cases ht

theorem execHostFrameCutOff_kept : s.ResultKept (execHostFrameCutOff s) := by
  unfold execHostFrameCutOff
  split
  · exact s.resultKept_refl
  · exact (LawsKept.of_view ((lawView_badFrame _).trans (s.lawView_setHostRx _))).next

theorem execReplyEnd_kept : s.ResultKept (execReplyEnd s) := by
  unfold execReplyEnd
  split
  · exact s.resultKept_refl
  · split
    · exact s.lawsKept_replyEnded.next
    · exact (s.lawsKept_nextAnswer { s.port with line := none, owed := s.port.owed.eraseP OwedAnswer.due } rfl).next
    · exact (s.lawsKept_nextAnswer { s.port with line := none } rfl).next

theorem execOpenMappingEnd_kept : s.ResultKept (execOpenMappingEnd s) := by
  unfold execOpenMappingEnd
  split
  · rename_i ho
    exact (lawsKept_mappingEnded (by rw [ho]; rfl) _).next
  · exact s.resultKept_refl
  · exact s.resultKept_refl

theorem execOpenColdZeroFillWrite_kept (page : Nat) : s.ResultKept (execOpenColdZeroFillWrite page s) := by
  unfold execOpenColdZeroFillWrite
  split
  · rename_i ho
    split
    · rename_i offset _
      have hwritten := s.lawView_writeWord page offset 0
      refine ((LawsKept.of_view hwritten).trans (lawsKept_setOpening ?_ _)).next
      rw [opening_of_view hwritten, ho]
      rfl
    · exact s.resultKept_refl
  · exact s.resultKept_refl
  · exact s.resultKept_refl

theorem execOpenColdCompletion_kept : s.ResultKept (execOpenColdCompletion s) := by
  unfold execOpenColdCompletion
  split
  · rename_i ho
    exact (lawsKept_coldOpened (by rw [ho]; rfl) _).next
  all_goals exact s.resultKept_refl

theorem execHostReadWord_kept : s.ResultKept (execHostReadWord s) := by
  unfold execHostReadWord
  split
  · exact (s.lawsKept_readOne _ _ _).next
  all_goals exact s.resultKept_refl

theorem execHostWriteWord_kept : s.ResultKept (execHostWriteWord s) := by
  unfold execHostWriteWord
  split
  · exact (s.lawsKept_writeOne _ _ _ _).next
  all_goals exact s.resultKept_refl

theorem execGateRead_kept : s.ResultKept (execGateRead s) := by
  unfold execGateRead
  split
  · exact (s.lawsKept_readGate _ _ _).next
  all_goals exact s.resultKept_refl

theorem execLockAdvance_kept : s.ResultKept (execLockAdvance s) := by
  unfold execLockAdvance
  split
  · exact (s.lawsKept_endAdvance _).next
  all_goals exact s.resultKept_refl

theorem execMoveTake_kept : s.ResultKept (execMoveTake s) := by
  unfold execMoveTake
  split
  · split
    · exact (s.lawsKept_takeMove _ _).next
    · exact s.resultKept_refl
  · exact s.resultKept_refl

theorem execMoveStep_kept : s.ResultKept (execMoveStep s) := by
  unfold execMoveStep
  split
  · split
    · exact (s.lawsKept_stepMove _).next
    · exact s.resultKept_refl
  · exact s.resultKept_refl

theorem lawsKept_passTo (t : Nat) : s.LawsKept (s.passTo t) := .of_view rfl

theorem execWindowExpiry_kept : s.ResultKept (execWindowExpiry s) := by
  unfold execWindowExpiry
  split
  · rename_i w hw
    refine ((s.lawsKept_passTo w).trans (.of_law fun h => ?_)).next
    exact lawsKept_decideVote (inService_iff.mpr (h.mode_of_window hw))
  · exact s.resultKept_refl

theorem execDeadlineExpiry_kept : s.ResultKept (execDeadlineExpiry s) := by
  unfold execDeadlineExpiry
  split
  · exact ((s.lawsKept_passTo _).trans (lawsKept_stopRequest _ _ _)).next
  · exact s.resultKept_refl

theorem execHalfPeriodExpiry_kept : s.ResultKept (execHalfPeriodExpiry s) := by
  unfold execHalfPeriodExpiry
  split
  · rename_i w hw
    refine (LawsKept.of_view ?_).next
    unfold State.lawView
    rw [hw]
    rfl
  · exact s.resultKept_refl

theorem execLinkFrameCheck_kept (port : LinkPort) (words : List Word) : s.ResultKept (execLinkFrameCheck port words s) := by
  unfold execLinkFrameCheck
  split
  · exact s.resultKept_refl
  · exact (lawsKept_foldl (fun t w => t.lawsKept_receiveWord port w) words s).next

theorem execLinkReceiveCutOff_kept (port : LinkPort) : s.ResultKept (execLinkReceiveCutOff port s) := by
  unfold execLinkReceiveCutOff
  split
  · exact s.resultKept_refl
  · exact ((s.lawsKept_setLink port { s.link port with rx := [] }).trans (lawsKept_checkFail _ _)).next

theorem execSilenceTimerExpiry_kept : s.ResultKept (execSilenceTimerExpiry s) := by
  unfold execSilenceTimerExpiry
  split
  · exact ((s.lawsKept_passTo _).trans (lawsKept_failAttempt _ _ _)).next
  · exact s.resultKept_refl

theorem execTransmitEnd_kept (port : LinkPort) : s.ResultKept (execTransmitEnd port s) := by
  unfold execTransmitEnd
  split
  · exact (s.lawsKept_transmitEnded _).next
  · exact s.resultKept_refl

theorem execIdleFill_kept (port : LinkPort) : s.ResultKept (execIdleFill port s) := by
  unfold execIdleFill
  split
  · exact ((s.lawsKept_passTo _).trans (lawsKept_setLink _ _ _)).next
  · exact s.resultKept_refl

theorem execLinkTimeout_kept (port : LinkPort) : s.ResultKept (execLinkTimeout port s) := by
  unfold execLinkTimeout
  split
  · exact ((s.lawsKept_passTo _).trans (lawsKept_linkDown _ _)).next
  · exact s.resultKept_refl

/-- Every command keeps the laws, if it goes on. -/
theorem exec_kept (i : Instr) : s.ResultKept (exec i s) := by
  have request : ∀ (c : Instr) {own : State → State}, (∀ t : State, t.LawsKept (own t)) →
      s.ResultKept (.next (s.request c own)) := fun c _ hown => (s.lawsKept_request c hown).next
  cases i with
  | powerOn => exact s.lawsKept_poweredOn.next
  | startUpSweepEnd => exact s.lawsKept_sweepEnded.next
  | restartInput => exact s.execRestartInput_kept
  | oneBitDisturbance frame offset => exact s.execDisturbance_kept frame offset Cell.disturb
  | silentDisturbance frame offset value => exact s.execDisturbance_kept frame offset fun c => c.silent value
  | hostFrameCheck bytes => exact (lawsKept_foldl lawsKept_receiveByte bytes s).next
  | hostFrameCutOff => exact s.execHostFrameCutOff_kept
  | replyEnd => exact s.execReplyEnd_kept
  | status tag => exact request _ fun t => t.lawsKept_reply _ _
  | configLane tag values => exact request _ fun t => t.lawsKept_configLaneEvent values
  | configRegion tag id first count code seed => exact request _ fun t => t.lawsKept_configRegionEvent id first count code seed
  | configRegionClear tag id => exact request _ fun t => t.lawsKept_configRegionClearEvent id
  | openCold tag => exact request _ lawsKept_openColdEvent
  | openJoin tag => exact request _ lawsKept_openJoinEvent
  | openMappingEnd => exact s.execOpenMappingEnd_kept
  | openColdZeroFillWrite page => exact s.execOpenColdZeroFillWrite_kept page
  | openColdCompletion => exact s.execOpenColdCompletion_kept
  | stop tag => exact request _ lawsKept_stopEvent
  | read tag address count => exact request _ fun t => t.lawsKept_readEvent address count
  | hostReadWord => exact s.execHostReadWord_kept
  | write tag address count words => exact request _ fun t => t.lawsKept_writeEvent address count words
  | hostWriteWord => exact s.execHostWriteWord_kept
  | fill tag page value => exact request _ fun t => t.lawsKept_fillEvent page value
  | adopt tag region => exact request _ fun t => t.lawsKept_adoptEvent region
  | cycleClose tag cycle => exact request _ fun t => t.lawsKept_closeEvent cycle
  | gateRead => exact s.execGateRead_kept
  | lockAdvance => exact s.execLockAdvance_kept
  | lockArm tag index code gate preset => exact request _ fun t => t.lawsKept_lockArmEvent index code gate preset
  | lockCancel tag index => exact request _ fun t => t.lawsKept_lockCancelEvent index
  | lockRead tag first count => exact request _ fun t => t.lawsKept_lockReadEvent first count
  | take tag => exact request _ lawsKept_takeEvent
  | doneClass tag cls => exact request _ fun t => t.lawsKept_doneClassEvent cls
  | doneNoClass tag => exact request _ lawsKept_doneNoClassEvent
  | mask tag set => exact request _ fun t => t.lawsKept_attentionReply _ _ _
  | priorityFixed tag => exact request _ fun t => t.lawsKept_attentionReply _ _ _
  | priorityRotating tag => exact request _ fun t => t.lawsKept_attentionReply _ _ _
  | prioritySetLowest tag cls => exact request _ fun t => t.lawsKept_setLowestEvent cls
  | frames tag first count => exact request _ fun t => t.lawsKept_framesEvent first count
  | poison tag => exact request _ fun t => t.lawsKept_reply _ _
  | restart tag => exact request _ fun t => t.lawsKept_reply _ _
  | patrolStep => exact s.lawsKept_patrolStep.next
  | moveTake => exact s.execMoveTake_kept
  | moveStep => exact s.execMoveStep_kept
  | windowExpiry => exact s.execWindowExpiry_kept
  | deadlineExpiry => exact s.execDeadlineExpiry_kept
  | halfPeriodExpiry => exact s.execHalfPeriodExpiry_kept
  | linkFrameCheck port words => exact s.execLinkFrameCheck_kept port words
  | linkReceiveCutOff port => exact s.execLinkReceiveCutOff_kept port
  | silenceTimerExpiry => exact s.execSilenceTimerExpiry_kept
  | sendStep => exact s.lawsKept_sendStep.next
  | finalSendStep => exact s.lawsKept_finalSendStep.next
  | lockImageQueued => exact s.lawsKept_queueLockImage.next
  | syncMarkQueued => exact s.lawsKept_queueSyncMark.next
  | transmitEnd port => exact s.execTransmitEnd_kept port
  | idleFill port => exact s.execIdleFill_kept port
  | linkTimeout port => exact s.execLinkTimeout_kept port

end State

/-- A step keeps the laws: the command taken does, on the state with the rest of the queue, and an idle step lets time pass. -/
theorem step_kept {s t : State} (h : step s = .next t) : s.LawsKept t := by
  unfold step at h
  split at h
  · rename_i c rest _
    exact .trans (t := { s with pending := rest }) (.of_view rfl) (State.exec_kept _ c t h)
  · cases h
    exact .of_view rfl

/-- Settles O57: each step keeps the three laws, those of the lock table and of the serve record with the help of the lane's. -/
theorem laneLawKept : Obligations.LaneLawKept :=
  ⟨fun _ _ h hstep => (step_kept hstep).lane h, fun _ _ h hl hstep => (step_kept hstep).lock h hl,
    fun _ _ h hs hstep => (step_kept hstep).serve h hs⟩

end Sys2Proof.Machine
end

section
/-! The decision of a vote: the verdict on the lists, the peers after it, and what it makes of the lane and the transfer engine
(R105 to R111, R121, R122, R130). -/

namespace Sys2Proof.Machine

/-! ### One peer -/

/-- A peer record after the miss counting of a decision (R106). -/
def PeerRecord.counted (p : PeerRecord) (limit : Nat) : PeerRecord :=
  if p.misses then
    { p with miss := bump 15 p.miss, state := if limit ≤ bump 15 p.miss then .absent else p.state }
  else p

/-- The miss counting makes this peer ABSENT (R106). -/
def PeerRecord.lapses (p : PeerRecord) (limit : Nat) : Bool := p.misses && decide (limit ≤ bump 15 p.miss)

/-- A peer record after a decision: counted, judged, and its held digest dropped (R105, R106, R109 to R111). -/
def PeerRecord.decided (p : PeerRecord) (limit lane : Nat) (verdict : Verdict) (odd : Option Nat) : PeerRecord :=
  { (p.counted limit).afterVerdict lane verdict odd with held := none }

theorem PeerRecord.misses_iff (p : PeerRecord) :
    p.misses = true ↔ (p.state = .present ∨ p.state = .divergent) ∧ p.held = none := by
  simp [PeerRecord.misses]

theorem PeerRecord.counted_of_misses {p : PeerRecord} (h : p.misses = true) (limit : Nat) : p.counted limit =
    { p with miss := bump 15 p.miss, state := if limit ≤ bump 15 p.miss then .absent else p.state } := if_pos h

theorem PeerRecord.counted_of_not_misses {p : PeerRecord} (h : p.misses = false) (limit : Nat) : p.counted limit = p :=
  if_neg (by simp [h])

theorem PeerRecord.counted_held (p : PeerRecord) (limit : Nat) : (p.counted limit).held = p.held := by
  unfold PeerRecord.counted
  split <;> rfl

theorem PeerRecord.afterVerdict_of_absent {p : PeerRecord} (h : p.held = none) (lane : Nat) (verdict : Verdict)
    (odd : Option Nat) : p.afterVerdict lane verdict odd = p := if_pos (by rw [h]; rfl)

/-- The state that a verdict gives a participant (R109, R110, R111). -/
def PeerState.judged (st : PeerState) (lane : Nat) (verdict : Verdict) (odd : Option Nat) : PeerState :=
  match verdict with
  | .agreed => .present
  | .outvoted => .present
  | .peerDivergent => if odd = some lane then .divergent else .present
  | .noMajority => st
  | .alone => st

theorem PeerRecord.afterVerdict_of_held {p : PeerRecord} (h : p.held ≠ none) (lane : Nat) (verdict : Verdict)
    (odd : Option Nat) : p.afterVerdict lane verdict odd = { p with state := p.state.judged lane verdict odd } := by
  unfold PeerRecord.afterVerdict
  rw [if_neg (by simpa using h)]
  cases verdict <;> dsimp only [PeerState.judged]
  split <;> rfl

/-- A peer that misses the vote is counted, and its state is its own or ABSENT (R106). -/
theorem PeerRecord.decided_of_misses {p : PeerRecord} (h : p.misses = true) (limit lane : Nat) (verdict : Verdict)
    (odd : Option Nat) : p.decided limit lane verdict odd =
      { p with miss := bump 15 p.miss, state := if limit ≤ bump 15 p.miss then .absent else p.state } := by
  have hheld := (p.misses_iff.mp h).2
  unfold PeerRecord.decided
  rw [PeerRecord.afterVerdict_of_absent ((p.counted_held limit).trans hheld), PeerRecord.counted_of_misses h]
  dsimp only []
  rw [hheld]

/-- A participant takes the state that the verdict gives it (R109, R110, R111). -/
theorem PeerRecord.decided_of_held {p : PeerRecord} (h : p.held ≠ none) (limit lane : Nat) (verdict : Verdict)
    (odd : Option Nat) : p.decided limit lane verdict odd =
      { p with held := none, state := p.state.judged lane verdict odd } := by
  have hmisses : p.misses = false := by
    cases hm : p.misses with
    | false => rfl
    | true => exact absurd (p.misses_iff.mp hm).2 h
  unfold PeerRecord.decided
  rw [PeerRecord.counted_of_not_misses hmisses, PeerRecord.afterVerdict_of_held h]

/-- A peer that neither takes part nor was expected to stays as it is (R106). -/
theorem PeerRecord.decided_of_idle {p : PeerRecord} (hm : p.misses = false) (h : p.held = none) (limit lane : Nat)
    (verdict : Verdict) (odd : Option Nat) : p.decided limit lane verdict odd = p := by
  unfold PeerRecord.decided
  rw [PeerRecord.counted_of_not_misses hm, PeerRecord.afterVerdict_of_absent h, ← h]

/-- The three cases of a peer at a decision, spelled in one record. -/
theorem PeerRecord.decided_eq (p : PeerRecord) (limit lane : Nat) (verdict : Verdict) (odd : Option Nat) :
    p.decided limit lane verdict odd = { p with
      held := none
      miss := if (p.state = .present ∨ p.state = .divergent) ∧ p.held = none then bump 15 p.miss else p.miss
      state := if ((p.state = .present ∨ p.state = .divergent) ∧ p.held = none) ∧ limit ≤ bump 15 p.miss then .absent
        else if p.held = none then p.state else p.state.judged lane verdict odd } := by
  have hlapsed := p.misses_iff
  cases hm : p.misses with
  | true =>
    have hboth := hlapsed.mp hm
    rw [PeerRecord.decided_of_misses hm]
    simp only [hboth, and_self, true_and, if_true]
  | false =>
    have hnot : ¬ ((p.state = .present ∨ p.state = .divergent) ∧ p.held = none) := fun h => by
      rw [hlapsed.mpr h] at hm; cases hm
    simp only [hnot, false_and, if_false]
    by_cases hheld : p.held = none
    · rw [PeerRecord.decided_of_idle hm hheld, if_pos hheld, ← hheld]
    · rw [PeerRecord.decided_of_held hheld, if_neg hheld]

/-! ### The decision -/

namespace State

variable (s : State)

/-- The miss counting of a peer, as one update of its record and one raise (R106). -/
theorem countMiss_spec (port : LinkPort) : s.countMiss port =
    { s.setPeer port ((s.peer port).counted s.config.missLimit) with
      attention := if (s.peer port).lapses s.config.missLimit then
        s.attention.raise (.link (s.peerLane port) .absent) else s.attention } := by
  unfold countMiss PeerRecord.counted PeerRecord.lapses
  dsimp only []
  split
  · rename_i hm
    simp only [hm, Bool.true_and, decide_eq_true_eq]
    split <;> cases port <;> rfl
  · rename_i hm
    rw [setPeer_peer]
    simp only [hm, Bool.false_and, Bool.false_eq_true, if_false]

/-- The raises of the miss counting, the peer at U before the peer at V (R106; log 38). -/
def lapseRaises : Attention :=
  let toldU := if s.peerU.lapses s.config.missLimit then s.attention.raise (.link (s.peerLane .u) .absent) else s.attention
  if s.peerV.lapses s.config.missLimit then toldU.raise (.link (s.peerLane .v) .absent) else toldU

/-- The vote unit's fields after a verdict on the last closed cycle (R105). -/
def votedUnit (verdict : Verdict) (n : Nat) (odd : Option Nat) : VoteUnit :=
  { s.vote with state := .decided, window := none, lastVerdict := some ⟨s.vote.lastClosed, verdict, n, odd⟩ }

/-- The state that a decision hands to the effects of its verdict (R105, R106, R109 to R111). -/
def voted (verdict : Verdict) (n : Nat) (odd : Option Nat) : State := { s with
  vote := s.votedUnit verdict n odd
  peerU := s.peerU.decided s.config.missLimit (s.peerLane .u) verdict odd
  peerV := s.peerV.decided s.config.missLimit (s.peerLane .v) verdict odd
  attention := s.lapseRaises }

variable {s} in
/-- A decision judges the lists, settles the peers and applies the verdict (R105, R107, R108). -/
theorem decideVote_of_verdict {own : DigestList} {verdict : Verdict} {n : Nat} {odd : Option Nat}
    (hown : s.vote.ownList = some own)
    (hjudged : judgeLists s.config.lane (s.peerLane .u) (s.peerLane .v) own s.peerU.held s.peerV.held = (verdict, n, odd)) :
    s.decideVote = (s.voted verdict n odd).applyVerdict ⟨s.vote.lastClosed, verdict, n, odd⟩ := by
  have hcounted : (s.countMiss .u).countMiss .v = { s with
      peerU := s.peerU.counted s.config.missLimit
      peerV := s.peerV.counted s.config.missLimit
      attention := s.lapseRaises } := by
    rw [countMiss_spec, s.countMiss_spec]
    rfl
  have hverdict : ((s.countMiss .u).countMiss .v).verdict = (verdict, n, odd) := by
    rw [hcounted, ← hjudged]
    unfold State.verdict
    dsimp only []
    rw [hown, PeerRecord.counted_held, PeerRecord.counted_held]
    rfl
  unfold decideVote
  dsimp only []
  rw [hverdict, hcounted]
  rfl

/-! ### The effects of a verdict -/

theorem verdictHanded_vote (agreed : Bool) (n : Nat) : (s.verdictHanded agreed n).vote = s.vote := by
  rw [verdictHanded_eq]
theorem verdictHanded_lane (agreed : Bool) (n : Nat) : (s.verdictHanded agreed n).lane = s.lane := by
  rw [verdictHanded_eq]
theorem verdictHanded_health (agreed : Bool) (n : Nat) : (s.verdictHanded agreed n).health = s.health := by
  rw [verdictHanded_eq]

theorem unjoined_of_not_joining {p : PeerRecord} (h : p.state ≠ .joining) : p.unjoined = p := by
  unfold PeerRecord.unjoined
  rw [if_neg h]

/-- A verdict handed to the engine changes no more of a peer than the end of a serve does (R143, R144). -/
theorem verdictHanded_peer (agreed : Bool) (n : Nat) (port : LinkPort) :
    (s.verdictHanded agreed n).peer port = s.peer port ∨
      (s.verdictHanded agreed n).peer port = (s.peer port).unjoined := by
  unfold verdictHanded
  split
  · exact .inl rfl
  · dsimp only []
    split
    · rw [endServe_peer]
      split
      · exact .inr (by cases port <;> rfl)
      · exact .inl (by cases port <;> rfl)
    · exact .inl (by cases port <;> rfl)

variable {s}

/-- A stop with no vote open changes no more of a peer than the end of a serve does (R112, R144). -/
theorem stopRequest_peer (hvote : s.vote.state ≠ .opened) (c : StopCause) (id : Nat) (port : LinkPort) :
    (s.stopRequest c id).peer port = s.peer port ∨ (s.stopRequest c id).peer port = (s.peer port).unjoined := by
  by_cases h : s.stops c
  · rw [stopRequest_of_stops h, enterStopped_peer, if_neg hvote]
    unfold PeerRecord.unjoined
    cases s.serving port with
    | true => exact .inr (by simp only [true_and])
    | false => exact .inl (by simp only [Bool.false_eq_true, false_and, if_false])
  · rw [stopRequest_of_not_stops h]; exact .inl rfl

theorem stopRequest_vote (hvote : s.vote.state ≠ .opened) (c : StopCause) (id : Nat) :
    (s.stopRequest c id).vote = s.vote := by
  by_cases h : s.stops c
  · rw [stopRequest_of_stops h, enterStopped_vote, if_neg hvote]
  · rw [stopRequest_of_not_stops h]

/-- What a verdict leaves of the vote unit and the peers, with the vote closed (R105). -/
theorem applyVerdict_rest (hvote : s.vote.state ≠ .opened) (v : VerdictRecord) : (s.applyVerdict v).vote = s.vote ∧
    ∀ port, (s.applyVerdict v).peer port = s.peer port ∨ (s.applyVerdict v).peer port = (s.peer port).unjoined := by
  unfold applyVerdict
  split
  · have hsame : ∀ t : State, t.confirm.vote = t.vote ∧ ∀ port, t.confirm.peer port = t.peer port := fun t => by
      unfold confirm
      split <;> exact ⟨rfl, fun port => by cases port <;> rfl⟩
    refine ⟨(verdictHanded_vote _ _ _).trans (hsame _).1, fun port => ?_⟩
    exact (verdictHanded_peer _ true v.cycle port).imp (fun h => h.trans ((hsame _).2 port))
      fun h => h.trans (congrArg _ ((hsame _).2 port))
  · exact ⟨verdictHanded_vote _ _ _, fun port => verdictHanded_peer _ _ _ port⟩
  all_goals exact ⟨stopRequest_vote hvote _ _, stopRequest_peer hvote _ _⟩

/-- A lane that stops in SERVICE is STOPPED by this cause (R125). -/
theorem stopRequest_lane (hmode : s.lane.mode = some .service) {c : StopCause} (hc : c ≠ .joinFailed) (id : Nat) :
    (s.stopRequest c id).lane = ⟨some .stopped, false, some c, none⟩ := by
  rw [stopRequest_of_service hmode hc, enterStopped_eq]

/-- The lane confirmed with the deadline afresh, and the waves begun where they did not run (R121, R122, R130). -/
theorem applyVerdict_agreed (hmode : s.lane.mode = some .service) (cycle n : Nat) (odd : Option Nat) :
    s.applyVerdict ⟨cycle, .agreed, n, odd⟩ =
      let half := if n = 2 then 2 * s.config.halfPeriod else s.config.halfPeriod
      ({ s with
        lane := ⟨some .service, true, s.lane.stopCause, some (s.time + s.config.deadline)⟩
        health := ⟨if s.lane.confirmed = true then s.health.wave else some ⟨.aHigh, half, s.time + half⟩, decide (n = 2)⟩ } :
          State).verdictHanded true cycle := by
  unfold applyVerdict startDeadline confirm halfPeriod Wave.begin
  dsimp only []
  congr 1
  cases hc : s.lane.confirmed with
  | true =>
    simp only [hmode, if_true]
    rfl
  | false =>
    simp only [hmode, Bool.false_eq_true, if_false, beq_iff_eq]
    rfl

theorem applyVerdict_agreed_lane (hmode : s.lane.mode = some .service) (cycle n : Nat) (odd : Option Nat) :
    (s.applyVerdict ⟨cycle, .agreed, n, odd⟩).lane =
      ⟨some .service, true, s.lane.stopCause, some (s.time + s.config.deadline)⟩ := by
  rw [applyVerdict_agreed hmode, verdictHanded_lane]

theorem applyVerdict_agreed_health (hmode : s.lane.mode = some .service) (cycle n : Nat) (odd : Option Nat) :
    (s.applyVerdict ⟨cycle, .agreed, n, odd⟩).health =
      let half := if n = 2 then 2 * s.config.halfPeriod else s.config.halfPeriod
      ⟨if s.lane.confirmed = true then s.health.wave else some ⟨.aHigh, half, s.time + half⟩, decide (n = 2)⟩ := by
  rw [applyVerdict_agreed hmode, verdictHanded_health]

end State

/-! ### The verdict on the lists -/

/-- The table of verdicts, row by row (R107, R108). -/
theorem judgeLists_rows (own a b : DigestList) (l u v : Nat) :
    (own = a → own = b → judgeLists l u v own (some a) (some b) = (.agreed, 3, none)) ∧
    (a = b → own ≠ a → judgeLists l u v own (some a) (some b) = (.outvoted, 3, some l)) ∧
    (own = a → own ≠ b → judgeLists l u v own (some a) (some b) = (.peerDivergent, 3, some v)) ∧
    (own = b → own ≠ a → judgeLists l u v own (some a) (some b) = (.peerDivergent, 3, some u)) ∧
    (own ≠ a → own ≠ b → a ≠ b → judgeLists l u v own (some a) (some b) = (.noMajority, 3, none)) ∧
    (own = a → judgeLists l u v own (some a) none = (.agreed, 2, none) ∧
      judgeLists l u v own none (some a) = (.agreed, 2, none)) ∧
    (own ≠ a → judgeLists l u v own (some a) none = (.noMajority, 2, none) ∧
      judgeLists l u v own none (some a) = (.noMajority, 2, none)) ∧
    judgeLists l u v own none none = (.alone, 1, none) := by
  unfold judgeLists
  dsimp only []
  refine ⟨fun h1 h2 => if_pos ⟨h1, h2⟩, fun h1 h2 => ?_, fun h1 h2 => ?_, fun h1 h2 => ?_, fun h1 h2 h3 => ?_,
    fun h => ⟨if_pos h, if_pos h⟩, fun h => ⟨if_neg h, if_neg h⟩, rfl⟩
  · rw [if_neg fun h => h2 h.1, if_pos h1]
  · rw [if_neg fun h => h2 h.2, if_neg fun h => h2 (h1.trans h), if_pos h1]
  · rw [if_neg fun h => h2 h.1, if_neg fun h => h2 (h1.trans h.symm), if_neg h2, if_pos h1]
  · rw [if_neg fun h => h1 h.1, if_neg h3, if_neg h1, if_neg h2]

/-! ### What a decision leaves -/

namespace State

variable {s : State} {own : DigestList} {verdict : Verdict} {n : Nat} {odd : Option Nat} (hown : s.vote.ownList = some own)
  (hjudged : judgeLists s.config.lane (s.peerLane .u) (s.peerLane .v) own s.peerU.held s.peerV.held = (verdict, n, odd))
include hown hjudged

theorem decideVote_vote : s.decideVote.vote = s.votedUnit verdict n odd := by
  rw [decideVote_of_verdict hown hjudged]
  exact (applyVerdict_rest (s := s.voted verdict n odd) (by simp [voted, votedUnit]) _).1

/-- A decision leaves each peer as it settles it, but for a JOINING receiver whose serve ends (R105, R144). -/
theorem decideVote_peer (port : LinkPort) :
    s.decideVote.peer port = (s.peer port).decided s.config.missLimit (s.peerLane port) verdict odd ∨
      s.decideVote.peer port = ((s.peer port).decided s.config.missLimit (s.peerLane port) verdict odd).unjoined := by
  have hpeer : (s.voted verdict n odd).peer port =
      (s.peer port).decided s.config.missLimit (s.peerLane port) verdict odd := by cases port <;> rfl
  rw [← hpeer, decideVote_of_verdict hown hjudged]
  exact (applyVerdict_rest (s := s.voted verdict n odd) (by simp [voted, votedUnit]) _).2 port

theorem decideVote_held (port : LinkPort) : (s.decideVote.peer port).held = none := by
  obtain h | h := decideVote_peer hown hjudged port <;> rw [h] <;> rfl

/-- A peer that missed the vote is counted, and no more (R106). -/
theorem decideVote_peer_of_misses {port : LinkPort} (h : (s.peer port).misses = true) : s.decideVote.peer port =
    { s.peer port with
      miss := bump 15 (s.peer port).miss
      state := if s.config.missLimit ≤ bump 15 (s.peer port).miss then .absent else (s.peer port).state } := by
  have hjoining : (if s.config.missLimit ≤ bump 15 (s.peer port).miss then PeerState.absent else (s.peer port).state) ≠
      .joining := by
    split
    · decide
    · obtain ⟨hst | hst, -⟩ := (s.peer port).misses_iff.mp h <;> rw [hst] <;> decide
  have hpeer := decideVote_peer hown hjudged port
  rw [PeerRecord.decided_of_misses h, unjoined_of_not_joining hjoining, or_self] at hpeer
  exact hpeer

/-- A participant has the state that the verdict gives it (R109, R111). -/
theorem decideVote_state_of_held {port : LinkPort} (h : (s.peer port).held.isSome)
    (hjoining : (s.peer port).state.judged (s.peerLane port) verdict odd ≠ .joining) :
    (s.decideVote.peer port).state = (s.peer port).state.judged (s.peerLane port) verdict odd := by
  have hpeer := decideVote_peer hown hjudged port
  rw [PeerRecord.decided_of_held (Option.isSome_iff_ne_none.mp h), unjoined_of_not_joining hjoining, or_self] at hpeer
  rw [hpeer]

end State

/-- Settles O43: the verdict is a table, the decision applies it to the settled peers, and what each block is left with follows
from what the effects of a verdict can change. -/
theorem windowExpiryDecides : Obligations.WindowExpiryDecides := by
  refine ⟨fun s w hw => ?_, judgeLists_rows, ?_⟩
  · show execWindowExpiry s = _
    unfold execWindowExpiry
    rw [hw]
    rfl
  intro s own verdict n odd hown hmode hjudged t lapsed misses lost settled toldU told voted half
  have ht : t = (s.voted verdict n odd).applyVerdict ⟨s.vote.lastClosed, verdict, n, odd⟩ :=
    State.decideVote_of_verdict hown hjudged
  have hsettled : ∀ port, settled port = (s.peer port).decided s.config.missLimit (s.peerLane port) verdict odd :=
    fun port => (PeerRecord.decided_eq _ _ _ _ _).symm
  have hlost : ∀ p, lost p ↔ p.lapses s.config.missLimit = true := fun p => by
    unfold PeerRecord.lapses
    rw [Bool.and_eq_true, PeerRecord.misses_iff, decide_eq_true_eq]
    rfl
  have htold : told = s.lapseRaises := by
    have hraise : ∀ (p : PeerRecord) (a b : Attention), (if lost p then a else b) =
        if p.lapses s.config.missLimit = true then a else b := fun p _ _ => if_congr (hlost p) rfl rfl
    show (if lost s.peerV then _ else _ : Attention) = _
    rw [hraise, show toldU = _ from hraise s.peerU _ _]
    rfl
  have hvoted : voted = s.voted verdict n odd := by
    show ({ s with
      vote := s.votedUnit verdict n odd
      peerU := settled .u
      peerV := settled .v
      attention := told } : State) = _
    rw [hsettled, hsettled, htold]
    rfl
  have hclosed : ∀ {c : StopCause}, t = (s.voted verdict n odd).stopRequest c 0 → c ≠ .joinFailed →
      t.lane = ⟨some .stopped, false, some c, none⟩ := fun h hc => by
    rw [h]
    exact State.stopRequest_lane (s := s.voted verdict n odd) hmode hc 0
  refine ⟨?effect, State.decideVote_vote hown hjudged, State.decideVote_held hown hjudged .u,
    State.decideVote_held hown hjudged .v, fun port hm => State.decideVote_peer_of_misses hown hjudged hm,
    ?agreed, ?divergent, ?outvoted, ?noMajority, ?alone⟩
  case effect =>
    rw [ht, hvoted, htold]
    cases verdict with
    | agreed => exact State.applyVerdict_agreed (s := s.voted .agreed n odd) hmode _ _ _
    | peerDivergent => rfl
    | outvoted => rfl
    | noMajority => rfl
    | alone => rfl
  case agreed =>
    rintro rfl
    have hlane := ht ▸ State.applyVerdict_agreed_lane (s := s.voted .agreed n odd) hmode s.vote.lastClosed n odd
    have hhealth := ht ▸ State.applyVerdict_agreed_health (s := s.voted .agreed n odd) hmode s.vote.lastClosed n odd
    refine ⟨hlane, by rw [hhealth], fun port h => State.decideVote_state_of_held hown hjudged h (by simp [PeerState.judged]), fun hc => ?_,
      fun hc => ?_⟩
    · rw [hhealth]; exact if_pos hc
    · rw [hhealth]; exact if_neg (by rw [show (s.voted .agreed n odd).lane.confirmed = false from hc]; decide)
  case divergent =>
    rintro rfl
    refine ⟨by rw [ht]; exact State.verdictHanded_lane _ _ _, by rw [ht]; exact State.verdictHanded_health _ _ _,
      fun port h => State.decideVote_state_of_held hown hjudged h ?_⟩
    dsimp only [PeerState.judged]
    split <;> decide
  case outvoted => rintro rfl; exact hclosed ht (by decide)
  case noMajority => rintro rfl; exact hclosed ht (by decide)
  case alone => rintro rfl; exact hclosed ht (by decide)

end Sys2Proof.Machine
end

section
/-! The arrival of a DIGEST: its checks, what a taken one does by the lane mode, its cycle and the vote state, and the early
decision (R100 to R105, R188). -/

namespace Sys2Proof.Machine

/-! ### The early decision -/

/-- An open vote is decided early if some peer is PRESENT and every PRESENT peer has delivered (R105). -/
theorem State.earlyDecision_iff (s : State) : s.earlyDecision = true ↔
    (s.peerU.state = .present ∨ s.peerV.state = .present) ∧
      (s.peerU.state = .present → s.peerU.held.isSome) ∧ (s.peerV.state = .present → s.peerV.held.isSome) := by
  have himp : ∀ p : PeerRecord, (p.state != .present || p.held.isSome) = true ↔ (p.state = .present → p.held.isSome) :=
    fun p => by rw [Bool.or_eq_true, bne_iff_ne, imp_iff_not_or]
  unfold State.earlyDecision
  rw [Bool.and_eq_true, Bool.and_eq_true, himp, himp, Bool.or_eq_true, beq_iff_eq, beq_iff_eq, and_assoc]

/-! ### Words and lists -/

/-- An entry is out of range by its high byte, or by a second word beside a high byte of 1 (R188). -/
theorem readEntry_eq_none (a b : Word) :
    readEntry a b = none ↔ 2 ≤ a.toNat / 256 ∨ a.toNat / 256 = 1 ∧ b ≠ 0 := by
  unfold readEntry
  split
  · simp; omega
  · split
    · rename_i h1
      obtain ⟨h1, hb⟩ := h1
      simp [h1, hb]
    · simp only [true_iff]
      by_cases hb : b = 0
      · left; simp only [hb, and_true] at *; omega
      · by_cases h1 : a.toNat / 256 = 1
        · exact .inr ⟨h1, hb⟩
        · left; omega

theorem readList_cons (a b : Word) (ws : List Word) :
    readList (a :: b :: ws) = (readEntry a b).bind fun e => (readList ws).map fun l => e :: l := by
  rw [readList]
  cases readEntry a b <;> cases readList ws <;> rfl

theorem readList_cons_eq_none (a b : Word) (ws : List Word) :
    readList (a :: b :: ws) = none ↔ readEntry a b = none ∨ readList ws = none := by
  rw [readList_cons]
  cases readEntry a b <;> simp

/-- The ids that pass the vote unit's check: ascending region ids, and 16 behind them (R100). -/
theorem idsFit_iff (ids : List Nat) :
    idsFit ids = true ↔ ∃ front, ids = front ++ [16] ∧ front.Pairwise (· < ·) ∧ ∀ i ∈ front, i ≤ 15 := by
  constructor
  · induction ids using idsFit.induct with
    | case1 => intro h; cases h
    | case2 i =>
      intro h
      have hi : i = 16 := by simpa [idsFit] using h
      exact ⟨[], by rw [hi]; rfl, .nil, by simp⟩
    | case3 i j is ih =>
      intro h
      simp only [idsFit, Bool.and_eq_true, decide_eq_true_eq] at h
      obtain ⟨⟨hlt, hle⟩, hrest⟩ := h
      obtain ⟨front, heq, hsorted, hids⟩ := ih hrest
      refine ⟨i :: front, by rw [heq]; rfl, List.pairwise_cons.mpr ⟨fun k hk => ?_, hsorted⟩, fun k hk => ?_⟩
      · cases front with
        | nil => cases hk
        | cons f fs =>
          obtain ⟨rfl, -⟩ := List.cons.inj heq
          rcases List.mem_cons.mp hk with rfl | hk
          · exact hlt
          · exact hlt.trans ((List.pairwise_cons.mp hsorted).1 k hk)
      · rcases List.mem_cons.mp hk with rfl | hk
        · exact hle
        · exact hids k hk
  · rintro ⟨front, rfl, hsorted, hids⟩
    induction front with
    | nil => rfl
    | cons i front ih =>
      obtain ⟨hfirst, hsorted⟩ := List.pairwise_cons.mp hsorted
      have hrest := ih hsorted fun k hk => hids k (List.mem_cons_of_mem _ hk)
      have hle := hids i (List.mem_cons_self ..)
      cases front with
      | nil => simp [idsFit]; omega
      | cons j front =>
        have hlt := hfirst j (List.mem_cons_self ..)
        simp only [List.cons_append, idsFit, Bool.and_eq_true, decide_eq_true_eq] at hrest ⊢
        exact ⟨⟨hlt, hle⟩, hrest⟩

/-- A list that passes the check: at most sixteen entries of ascending region ids, and one of id 16 behind them (R100). -/
theorem listFits_iff (l : DigestList) : listFits l = true ↔ ∃ front d, l = front ++ [(16, d)] ∧ front.length ≤ 16 ∧
    (front.map Prod.fst).Pairwise (· < ·) ∧ ∀ e ∈ front, e.1 ≤ 15 := by
  unfold listFits
  rw [Bool.and_eq_true, idsFit_iff, decide_eq_true_eq]
  constructor
  · rintro ⟨⟨ids, heq, hsorted, hids⟩, hlen⟩
    obtain ⟨front, last, rfl, rfl, hlast⟩ := List.map_eq_append_iff.mp heq
    obtain ⟨⟨i, d⟩, rfl, hi⟩ := List.map_eq_singleton_iff.mp hlast
    have hi : i = 16 := hi
    rw [List.length_append, List.length_singleton] at hlen
    exact ⟨front, d, by rw [hi], by omega, hsorted, fun e he => hids _ (List.mem_map_of_mem he)⟩
  · rintro ⟨front, d, rfl, hlen, hsorted, hids⟩
    refine ⟨⟨front.map Prod.fst, by simp, hsorted, fun i hi => ?_⟩, by simp; omega⟩
    obtain ⟨e, he, rfl⟩ := List.mem_map.mp hi
    exact hids e he

/-! ### A DIGEST taken -/

theorem PeerState.heard_eq (st : PeerState) : st.heard = if st = .divergent then .divergent else .present := by
  cases st <;> rfl

/-- A late frame counts, and makes an ABSENT or JOINING peer PRESENT with no misses (R103). -/
theorem PeerRecord.tookLate_eq (p : PeerRecord) : p.tookLate = { p with
    late := bump 255 p.late
    state := if p.state = .divergent then .divergent else .present
    miss := if p.state = .absent ∨ p.state = .joining then 0 else p.miss } := by
  unfold PeerRecord.tookLate
  split <;> simp [*]

namespace State

variable {s : State} {port : LinkPort} {sender m : Nat} {confirmed : Bool} {list : DigestList}

/-- The peer record with the cycle and the confirmed flag of a DIGEST noted (R101 to R104). -/
def noted (s : State) (port : LinkPort) (m : Nat) (confirmed : Bool) : PeerRecord :=
  { s.peer port with lastCycle := m, confirmed := confirmed }

theorem handFrame_digest (hgood : sender = s.peerLane port ∧ listFits list = true) :
    s.handFrame port (.digest sender m (some confirmed) (some list)) = s.digestTaken port m confirmed list := if_pos hgood

/-- A delivery for the open vote (R101, R105). -/
theorem digestTaken_delivery (hin : s.inService = true) (hopen : m = s.vote.lastClosed ∧ s.vote.state = .opened) :
    s.digestTaken port m confirmed list =
      (s.setPeer port ((s.noted port m confirmed).deliver list)).decideIfEarly := by
  unfold digestTaken
  rw [if_pos hin, if_pos hopen]
  rfl

/-- A frame of a later cycle goes to the early slot (R102). -/
theorem digestTaken_early (hin : s.inService = true) (hlater : s.vote.lastClosed < m) :
    s.digestTaken port m confirmed list = match (s.peer port).early with
      | none => s.setPeer port { s.noted port m confirmed with early := some ⟨m, confirmed, list⟩ }
      | some _ =>
        (s.setPeer port { s.noted port m confirmed with
          early := some ⟨m, confirmed, list⟩, earlyOverwritten := true }).raise (.link (s.peerLane port) .earlyOverwritten) := by
  unfold digestTaken
  rw [if_pos hin, if_neg fun h => absurd h.1 (by omega), if_pos hlater]
  rfl

/-- A frame of a cycle that is closed and not open is late (R103). -/
theorem digestTaken_late (hin : s.inService = true) (hpast : m ≤ s.vote.lastClosed)
    (hopen : ¬ (m = s.vote.lastClosed ∧ s.vote.state = .opened)) :
    s.digestTaken port m confirmed list =
      (s.setPeer port (s.noted port m confirmed).tookLate).raise (.link (s.peerLane port) .late) := by
  unfold digestTaken
  rw [if_pos hin, if_neg hopen, if_neg (Nat.not_lt.mpr hpast)]
  rfl

/-- Outside SERVICE a frame counts for presence, and in JOINING the engine hears of it (R104, R146). -/
theorem digestTaken_outside (hin : s.inService = false) :
    s.digestTaken port m confirmed list =
      let t := s.setPeer port { s.noted port m confirmed with state := (s.peer port).state.heard, miss := 0 }
      if s.isJoining = true then t.peerHeard port else t := by
  unfold digestTaken
  rw [if_neg (by simp [hin])]
  rfl

end State

/-- Settles O44: the checks of a DIGEST as equivalences, and a taken one case by case. -/
theorem digestArrival : Obligations.DigestArrival := by
  refine ⟨fun s => ⟨fun h => if_pos ⟨h.1, s.earlyDecision_iff.mpr h.2⟩,
    fun h => if_neg fun hc => h ⟨hc.1, s.earlyDecision_iff.mp hc.2⟩⟩, fun s port sender m confirmed list h => ?_,
    fun _ _ _ _ => rfl, fun a b ws => ?_, listFits_iff, ?_⟩
  · obtain rfl | rfl := h
    · rfl
    · cases confirmed <;> rfl
  · rw [readList_cons_eq_none, readEntry_eq_none, or_assoc]
  intro s port sender m confirmed list t p heard good open_
  have hheard : p.state.heard = heard := PeerState.heard_eq p.state
  refine ⟨fun h => if_neg h, fun h hin hopen => ?delivery, fun h hin hlater => ?early, fun h hin hpast hopen => ?late,
    fun h hin hjoin => ?outside, fun h hin hjoin => ?joining⟩ <;> have ht := State.handFrame_digest (m := m)
    (confirmed := confirmed) h <;> rw [show t = _ from ht]
  case delivery =>
    rw [State.digestTaken_delivery hin hopen, ← hheard]
    rfl
  case early =>
    rw [State.digestTaken_early hin hlater]
    refine ⟨fun he => ?_, fun he => ?_⟩
    · rw [show (s.peer port).early = none from he]
      rfl
    · obtain ⟨e, he⟩ := Option.ne_none_iff_exists'.mp he
      rw [show (s.peer port).early = some e from he]
      rfl
  case late =>
    rw [State.digestTaken_late hin hpast hopen, PeerRecord.tookLate_eq]
    rfl
  case outside =>
    rw [State.digestTaken_outside hin, ← hheard]
    exact if_neg (by simp [hjoin])
  case joining =>
    rw [State.digestTaken_outside hin, ← hheard]
    exact if_pos hjoin

end Sys2Proof.Machine
end

section
/-! STOP and RESTART at their blocks (R123, R185). -/

namespace Sys2Proof.Machine

/-! ### A stop request does not look at the host port -/

theorem State.endServe_inHand (s : State) (kind tag : Nat) (reason : RestoreReason) (abort : Option RestoreReason) :
    (s.inHand kind tag).endServe reason abort = (s.endServe reason abort).inHand kind tag := by
  cases h : s.serve with
  | none => rw [State.endServe_of_idle h, State.endServe_of_idle (s := s.inHand kind tag) h]
  | some v =>
    rw [State.endServe_of_serve h, State.endServe_of_serve (s := s.inHand kind tag) h]
    cases v.receiver <;> rfl

theorem State.stopping_inHand (s : State) (kind tag : Nat) (cause : StopCause) :
    (s.inHand kind tag).stopping cause = (s.stopping cause).inHand kind tag := by
  have hvote : (s.inHand kind tag).vote.state = s.vote.state := rfl
  unfold State.stopping State.leaveService
  dsimp only []
  rw [hvote]
  cases s.vote.state <;> rfl

theorem State.enterStopped_inHand (s : State) (kind tag : Nat) (cause : StopCause) (region : Nat) :
    (s.inHand kind tag).enterStopped cause region = (s.enterStopped cause region).inHand kind tag := by
  have hended : ((s.inHand kind tag).stopping cause).endServe .donorLeft (some .donorLeft) =
      ((s.stopping cause).endServe .donorLeft (some .donorLeft)).inHand kind tag := by
    rw [State.stopping_inHand, State.endServe_inHand]
  unfold State.stopping at hended
  unfold State.enterStopped
  dsimp only []
  rw [hended]
  split <;> rfl

/-! ### The requests -/

/-- STOP that is given goes to its block in hand (R123, R176). -/
theorem execStop_given {s : State} {tag : Nat} (h : s.given 5 tag (.stop tag)) :
    exec (.stop tag) s = .next (s.inHand 5 tag).stopEvent :=
  congrArg Host.Outcome.next
    (State.request_given (payload := []) State.stopEvent rfl (by decide) (by decide) rfl h)

/-- RESTART that is given goes to its block in hand (R176, R185). -/
theorem execRestart_given {s : State} {tag : Nat} (h : s.given 20 tag (.restart tag)) :
    exec (.restart tag) s = .next (s.inHand 20 tag).restartEvent :=
  congrArg Host.Outcome.next
    (State.request_given (payload := []) State.restartEvent rfl (by decide) (by decide) rfl h)

/-- STOP out of SERVICE is refused (R123). -/
theorem execStop_wrongMode {s : State} {tag : Nat} (h : s.given 5 tag (.stop tag)) (hmode : s.inService = false) :
    exec (.stop tag) s = .next (s.answered 5 tag .wrongMode []) := by
  have hmode : ¬ (s.inHand 5 tag).inService = true := by simpa [State.inService] using hmode
  rw [execStop_given h, State.stopEvent, if_neg hmode, State.inHand_reply]

/-- STOP in SERVICE stops the lane and answers (R123, R124). -/
theorem execStop_taken {s : State} {tag : Nat} (h : s.given 5 tag (.stop tag)) (hmode : s.inService = true) :
    exec (.stop tag) s = .next ((s.stopRequest .host 0).answered 5 tag .ok []) := by
  have hservice := State.inService_iff.mp hmode
  have hstop : (s.inHand 5 tag).stopRequest .host 0 = (s.stopRequest .host 0).inHand 5 tag := by
    rw [State.stopRequest_of_service (s := s.inHand 5 tag) hservice (by decide),
      State.stopRequest_of_service hservice (by decide), State.enterStopped_inHand]
  rw [execStop_given h, State.stopEvent, if_pos (show (s.inHand 5 tag).inService = true from hmode), hstop,
    State.inHand_reply]

/-- Settles O18, by the mode check of STOP and the answer of RESTART. -/
theorem stopAndRestartRequests : Obligations.StopAndRestartRequests :=
  ⟨fun _ _ hgiven => ⟨execStop_wrongMode hgiven, execStop_taken hgiven⟩,
    fun s tag hgiven => by rw [execRestart_given hgiven, State.restartEvent, State.inHand_reply]⟩

end Sys2Proof.Machine
end

section
/-! The deadline, half-period and link timers at their expiry (R122, R130, R131, R144, R163). -/

namespace Sys2Proof.Machine

/-! ### What each command does while its timer runs -/

/-- A deadline that runs out makes the stop request of cause DEADLINE at its instant (R122; log 1). -/
theorem execDeadlineExpiry_of_deadline {s : State} {d : Nat} (h : s.lane.deadline = some d) :
    exec .deadlineExpiry s = .next ((s.passTo d).stopRequest .deadline 0) := by
  show execDeadlineExpiry s = _
  unfold execDeadlineExpiry
  rw [h]

/-- The waves toggle at the instant of their toggle (R130; log 1). -/
theorem execHalfPeriodExpiry_of_wave {s : State} {w : Wave} (h : s.health.wave = some w) :
    exec .halfPeriodExpiry s = .next ((s.passTo w.toggleAt).toggleWave w) := by
  show execHalfPeriodExpiry s = _
  unfold execHalfPeriodExpiry
  rw [h]

/-- A link timer that runs out takes its link DOWN at its instant (R163; log 1). -/
theorem execLinkTimeout_of_timer {s : State} {port : LinkPort} {l : Nat} (h : (s.link port).timer = some l) :
    exec (.linkTimeout port) s = .next ((s.passTo l).linkDown port) := by
  show execLinkTimeout port s = _
  unfold execLinkTimeout
  rw [h]

/-! ### The waves and the link -/

theorem WavePhase.toggle_eq (p : WavePhase) : p.toggle = if p = .aHigh then .aLow else .aHigh := by cases p <;> rfl

/-- A link of this state marked DOWN, with its raise, before the transfer engine hears of it (R163). -/
def State.markedDown (s : State) (port : LinkPort) : State :=
  (s.setLink port { s.link port with up := false, timer := none }).raise (.link (s.peerLane port) .down)

/-- A link that goes DOWN ends a serve to its peer and nothing else of the transfer engine (R144, R163). -/
theorem State.linkDown_eq (s : State) (port : LinkPort) : s.linkDown port =
    if s.serving port = true then (s.markedDown port).endServe .linkDown none else s.markedDown port := by
  have hserving : (s.markedDown port).serving port = s.serving port := by cases port <;> rfl
  rw [← hserving]
  rfl

theorem State.markedDown_passTo (s : State) (port : LinkPort) (l : Nat) : (s.passTo l).markedDown port =
    (({ s with time := max s.time l } : State).setLink port
      { s.link port with up := false, timer := none }).raise (.link (s.peerLane port) .down) := by
  cases port <;> rfl

theorem State.endServe_serve (s : State) (reason : RestoreReason) (abort : Option RestoreReason) :
    (s.endServe reason abort).serve = none := by rw [State.endServe_eq]

/-- Settles O45, timer by timer: what each does at its instant, with the stop request and the end of a serve by what they
leave. -/
theorem timersExpire : Obligations.TimersExpire := by
  refine ⟨fun s d h => ⟨_, execDeadlineExpiry_of_deadline h, rfl, fun hin => ?_⟩, fun s w h => ?_, ?_⟩
  · have hservice : (s.passTo d).lane.mode = some .service := State.inService_iff.mp hin
    rw [State.stopRequest_of_service hservice (by decide), State.enterStopped_eq]
    exact ⟨rfl, rfl⟩
  · rw [execHalfPeriodExpiry_of_wave h, State.toggleWave, WavePhase.toggle_eq]
    rfl
  · intro s port l h down
    have hserving : (s.passTo l).serving port = s.serving port := rfl
    rw [execLinkTimeout_of_timer h, State.linkDown_eq, hserving, State.markedDown_passTo]
    exact ⟨fun hno => by rw [if_neg (by simp [hno])],
      fun hyes => ⟨by rw [if_pos hyes], State.endServe_serve down .linkDown none⟩⟩

end Sys2Proof.Machine
end

section
/-! A JOIN-ASK at the donor: the checks in their order and the serve that begins (R135, R136). -/

namespace Sys2Proof.Machine

theorem State.lastAgreed_iff {s : State} :
    s.lastAgreed = true ↔ ∃ v, s.vote.lastVerdict = some v ∧ v.verdict = .agreed := by
  unfold State.lastAgreed
  cases s.vote.lastVerdict <;> simp

/-- The checks of a JOIN-ASK after its lane number, in their order (R135). -/
theorem State.judgeAsk_eq (s : State) (port : LinkPort) : s.judgeAsk port =
    if s.config.serveEnable = false then s.declineAsk port .notEnabled
    else if ¬ (s.inService = true ∧ s.lane.confirmed = true) then s.declineAsk port .notServing
    else if s.serve ≠ none then s.declineAsk port .busyServing
    else if ¬ ∃ v, s.vote.lastVerdict = some v ∧ v.verdict = .agreed then s.declineAsk port .notAgreed
    else s.acceptAsk port := by
  simp only [State.judgeAsk, ← State.lastAgreed_iff, Bool.not_eq_true', ← Bool.and_eq_true, Bool.not_eq_true,
    ← Option.isSome_iff_ne_none]

/-- What an accepted ask leaves (R136). -/
theorem State.acceptAsk_eq (s : State) (port : LinkPort) : s.acceptAsk port =
    { (s.putControl port (.joinOffer s.vitalPages.length)).setPeer port { s.peer port with state := .joining } with
      serve := some (Serve.begin port s.vitalPages)
      attention := s.attention.raise (.restore .donor .accepted none s.vote.lastClosed) } := by
  cases port <;> rfl

/-- Settles O48: the lane number first, then the end of a serve to the asking peer, then the checks in their order. -/
theorem joinAskJudged : Obligations.JoinAskJudged := by
  intro s port asked declined serves agreed
  have hjudge := s.judgeAsk_eq port
  refine ⟨fun sender hlane => if_pos hlane, fun hserving => ?_, fun hserving => ?_, fun hoff => ?_, fun hon hout => ?_,
    fun hon hin hbusy => ?_, fun hon hin hidle hno => ?_, fun hon hin hidle hyes => ?_⟩
  · exact (if_neg (not_not_intro rfl)).trans (if_pos hserving)
  · exact (if_neg (not_not_intro rfl)).trans (if_neg (by simp [hserving]))
  · rw [hjudge, if_pos hoff]
    rfl
  all_goals have hon : ¬ s.config.serveEnable = false := by simp [hon]
  · rw [hjudge, if_neg hon, if_pos hout]
    rfl
  · rw [hjudge, if_neg hon, if_neg (not_not_intro hin), if_pos hbusy]
    rfl
  · rw [hjudge, if_neg hon, if_neg (not_not_intro hin), if_neg (not_not_intro hidle), if_pos hno]
    rfl
  · rw [hjudge, if_neg hon, if_neg (not_not_intro hin), if_neg (not_not_intro hidle), if_neg (not_not_intro hyes)]
    exact s.acceptAsk_eq port

end Sys2Proof.Machine
end

section
/-! The donor in BULK: its send steps, and the final decision from the completion of a close to the verdict on it (R137,
R139, R140, R142, R143, R158). -/

namespace Sys2Proof.Machine

/-! ### The page of a send step -/

/-- A search finds nothing exactly where nothing is dirty (R137). -/
theorem Serve.nextDirty_eq_none {v : Serve} : v.nextDirty = none ↔ v.dirty = [] := by
  unfold Serve.nextDirty
  split
  · rename_i p hp
    simp [List.ne_nil_of_mem (List.mem_of_find?_eq_some hp)]
  · exact List.head?_eq_none_iff

/-- A search takes the lowest dirty page from the cursor on, or the lowest of all where there is none (R137). -/
theorem Serve.nextDirty_eq_some {v : Serve} {p : Nat} (hsorted : v.dirty.Pairwise (· < ·)) (hp : v.nextDirty = some p) :
    p ∈ v.dirty ∧ (v.cursor ≤ p ∧ (∀ q ∈ v.dirty, v.cursor ≤ q → p ≤ q) ∨
      (∀ q ∈ v.dirty, q < v.cursor) ∧ ∀ q ∈ v.dirty, p ≤ q) := by
  unfold Serve.nextDirty at hp
  split at hp
  · rename_i hfind
    cases hp
    obtain ⟨hfrom, before, after, hdirty, hbefore⟩ := List.find?_eq_some_iff_append.mp hfind
    refine ⟨List.mem_of_find?_eq_some hfind, .inl ⟨by simpa using hfrom, fun q hq hle => ?_⟩⟩
    rw [hdirty] at hq hsorted
    rcases List.mem_append.mp hq with hq | hq
    · exact absurd hle (by simpa using hbefore q hq)
    · rcases List.mem_cons.mp hq with rfl | hq
      · exact le_rfl
      · exact (List.rel_of_pairwise_cons (List.pairwise_append.mp hsorted).2.1 hq).le
  · rename_i hfind
    obtain ⟨rest, hdirty⟩ := List.head?_eq_some_iff.mp hp
    refine ⟨List.mem_of_mem_head? hp, .inr ⟨by simpa using hfind, fun q hq => ?_⟩⟩
    rw [hdirty] at hq hsorted
    rcases List.mem_cons.mp hq with rfl | hq
    · exact le_rfl
    · exact (List.rel_of_pairwise_cons hsorted hq).le

theorem Serve.chooseBulk_of_inSend {v : Serve} {x : InSend} (h : v.inSend = some x) : v.chooseBulk = some (v, x) := by
  unfold Serve.chooseBulk
  rw [h]

theorem Serve.chooseBulk_of_clean {v : Serve} (h : v.inSend = none) (hclean : v.dirty = []) : v.chooseBulk = none := by
  unfold Serve.chooseBulk
  rw [h]
  dsimp only []
  rw [Serve.nextDirty_eq_none.mpr hclean]

/-- The record with a dirty page taken into send (R137). -/
def Serve.taking (v : Serve) (p : Nat) : Serve :=
  { v with dirty := setErase p v.dirty, cursor := if p + 1 < 120 then p + 1 else 0, inSend := some ⟨p, 0, false⟩ }

theorem Serve.chooseBulk_of_dirty {v : Serve} {p : Nat} (h : v.inSend = none) (hp : v.nextDirty = some p) :
    v.chooseBulk = some (v.taking p, ⟨p, 0, false⟩) := by
  unfold Serve.chooseBulk
  rw [h]
  dsimp only []
  rw [hp]
  rfl

/-! ### The candidate final set and the judged decision -/

theorem Serve.mem_candidate {v : Serve} {p : Nat} :
    p ∈ v.candidate ↔ p ∈ v.dirty ∨ ∃ x, v.inSend = some x ∧ x.page = p := by
  unfold Serve.candidate
  cases v.inSend with
  | none => simp
  | some x => simp [mem_setInsert, or_comm, eq_comm]

theorem Serve.judged_of_other {v : Serve} {n : Nat} (h : v.phase = .final ∨ v.pendingCycle ≠ some n) (agreed : Bool) :
    v.judged agreed n = v := by
  refine if_neg fun ⟨hbulk, hpending⟩ => ?_
  rcases h with hfinal | hother
  · exact absurd (hbulk.symm.trans hfinal) (by decide)
  · exact hother hpending

theorem Serve.judged_of_pending {v : Serve} {n : Nat} (hbulk : v.phase = .bulk) (hpending : v.pendingCycle = some n)
    (agreed : Bool) : v.judged agreed n = if agreed then v.confirm else v.withdraw := if_pos ⟨hbulk, hpending⟩

theorem Serve.judged_receiver (v : Serve) (agreed : Bool) (n : Nat) : (v.judged agreed n).receiver = v.receiver := by
  unfold Serve.judged
  split
  · cases agreed <;> rfl
  · rfl

namespace State

/-- A serve record put back where it stands changes nothing. -/
theorem serve_self {s : State} {v : Serve} (h : s.serve = some v) : { s with serve := some v } = s := by rw [← h]

theorem bulkRoom_iff (s : State) (port : LinkPort) : s.bulkRoom port = true ↔ (s.link port).bulk.length < 2 :=
  decide_eq_true_iff

theorem bulkRoom_eq_false (s : State) (port : LinkPort) : s.bulkRoom port = false ↔ 2 ≤ (s.link port).bulk.length := by
  rw [← Bool.not_eq_true, bulkRoom_iff, Nat.not_lt]

variable {s : State} {v : Serve}

/-! ### A send step in BULK -/

/-- The state after a send step in BULK that has chosen its page: the burst read, and queued unless it holds a DOUBLE word
(R137). -/
def bulkSent (s : State) (w : Serve) (x : InSend) : State :=
  match ({ s with serve := some w } : State).readRun x.page .send x.next s.config.burst with
  | (t, some ws) => ({ t with serve := some (w.sentBulk x ws.length) } : State).putBulk w.receiver (.page x.page x.next ws)
  | (t, none) => t

/-- With a decision pending, the bulk queue full or nothing to send, no step is made (R137, R158). -/
theorem sendStep_of_held (h : s.serve = some v)
    (hheld : v.pendingCycle ≠ none ∨ s.bulkRoom v.receiver = false ∨ v.chooseBulk = none) : s.sendStep = s := by
  unfold sendStep
  rw [h]
  dsimp only []
  split
  · rename_i hnone hroom hchosen
    simp [hnone, hroom, hchosen] at hheld
  · rfl

theorem sendStep_of_chosen (h : s.serve = some v) (hbulk : v.phase = .bulk) (hnone : v.pendingCycle = none)
    (hroom : s.bulkRoom v.receiver = true) {w : Serve} {x : InSend} (hw : v.chooseBulk = some (w, x))
    (hreceiver : w.receiver = v.receiver) : s.sendStep = s.bulkSent w x := by
  unfold sendStep
  simp only [h, hbulk, hnone, hroom, hw]
  rw [← hreceiver]
  rfl

/-- A step that goes on with the page in send (R137). -/
theorem sendStep_of_inSend (h : s.serve = some v) (hbulk : v.phase = .bulk) (hnone : v.pendingCycle = none)
    (hroom : s.bulkRoom v.receiver = true) {x : InSend} (hx : v.inSend = some x) : s.sendStep = s.bulkSent v x :=
  sendStep_of_chosen h hbulk hnone hroom (Serve.chooseBulk_of_inSend hx) rfl

/-- A step that takes a dirty page is the step with that page in send (R137). -/
theorem sendStep_of_dirty (h : s.serve = some v) (hbulk : v.phase = .bulk) (hnone : v.pendingCycle = none)
    (hroom : s.bulkRoom v.receiver = true) {p : Nat} (hx : v.inSend = none) (hp : v.nextDirty = some p) :
    s.sendStep = ({ s with serve := some (v.taking p) } : State).sendStep := by
  rw [sendStep_of_chosen h hbulk hnone hroom (Serve.chooseBulk_of_dirty hx hp) rfl,
    sendStep_of_inSend (s := { s with serve := some (v.taking p) }) rfl hbulk hnone hroom rfl]
  rfl

/-! ### The final decision -/

theorem firstPassDone_iff (s : State) (v : Serve) : s.firstPassDone v = true ↔ ∀ p ∈ s.vitalPages, p ∈ v.sentOnce :=
  setCovered_iff

/-- A close completed before the first pass is done tells the record nothing (R139). -/
theorem closeCompleted_of_first_pass (h : s.serve = some v) (hbulk : v.phase = .bulk) (hnone : v.pendingCycle = none)
    (hpass : s.firstPassDone v = false) (n : Nat) : s.closeCompleted n = s := by
  unfold closeCompleted
  simp only [h, hbulk, hnone, hpass, Bool.false_and, Bool.false_eq_true, if_false]
  exact serve_self h

/-- A close completed after the first pass counts, and prepares the final decision where no more than F pages are left
(R139, R143). -/
theorem closeCompleted_of_covered (h : s.serve = some v) (hbulk : v.phase = .bulk) (hnone : v.pendingCycle = none)
    (hpass : s.firstPassDone v = true) (n : Nat) : s.closeCompleted n =
      { s with serve := some (if v.candidate.length ≤ s.config.finalLimit
          then (v.counted true).prepare n s.lockImage s.vote.ownList else v.counted true) } := by
  have hcandidate : (v.counted true).candidate = v.candidate := rfl
  unfold closeCompleted
  simp only [h, hbulk, hnone, hpass, Bool.true_and, decide_eq_true_eq, hcandidate]
  split <;> rfl

/-- A verdict that leaves the lane in SERVICE, with the convergence limit (R140, R143). -/
theorem verdictHanded_of_serve (h : s.serve = some v) (agreed : Bool) (n : Nat) : s.verdictHanded agreed n =
    if (v.judged agreed n).phase = .bulk ∧ (v.judged agreed n).convergence = 32 then
      s.endServe .noConvergence (some .noConvergence)
    else { s with serve := some (v.judged agreed n) } := by
  have hended : ({ s with serve := some (v.judged agreed n) } : State).endServe .noConvergence (some .noConvergence) =
      s.endServe .noConvergence (some .noConvergence) := by
    rw [endServe_of_serve h, endServe_of_serve (s := { s with serve := some (v.judged agreed n) }) rfl, v.judged_receiver]
    cases v.receiver <;> rfl
  rw [← hended]
  unfold verdictHanded
  rw [h]
  rfl

end State

/-- Settles O49, part by part: the search, the sets, the verdict at the convergence limit, the send step, the decision
prepared, and the verdict on it. -/
theorem serveSendsAndDecides : Obligations.ServeSendsAndDecides := by
  refine ⟨fun v hsorted => ⟨Serve.nextDirty_eq_none, fun p hp => Serve.nextDirty_eq_some hsorted hp⟩,
    fun v p => Serve.mem_candidate, fun xs ys p => mem_setUnion, fun s n v agreed h => ⟨fun hfinal => ?_,
      fun hbulk hother => ?_, fun hbulk hpending hlimit => ?_⟩, fun s v h hbulk => ⟨fun hheld => ?_, fun t words x hnone hroom hx hread => ?_,
      fun t x hnone hroom hx hread => ?_, fun p hnone hx hp => ?_⟩, fun s n v h hbulk hnone => ⟨fun hnot => ?_,
      fun hall hlong => ?_, fun hall hshort => ?_⟩, fun s n v h hbulk hpending => ⟨?_, fun hlimit => ?_⟩⟩
  · rw [State.verdictHanded_of_serve h, Serve.judged_of_other (.inl hfinal), if_neg (by simp [hfinal]), State.serve_self h]
  · rw [State.verdictHanded_of_serve h, Serve.judged_of_other (.inr hother), State.serve_self h]
    simp only [hbulk, true_and]
  · rw [State.verdictHanded_of_serve h, Serve.judged_of_pending hbulk hpending]
    exact if_pos ⟨hbulk, hlimit⟩
  · refine congrArg Host.Outcome.next (State.sendStep_of_held h ?_)
    rw [State.bulkRoom_eq_false]
    exact hheld.imp_right (.imp_right fun ⟨hx, hclean⟩ => Serve.chooseBulk_of_clean hx hclean)
  · refine congrArg Host.Outcome.next ?_
    rw [State.sendStep_of_inSend h hbulk hnone ((s.bulkRoom_iff _).mpr hroom) hx, State.bulkSent, State.serve_self h, hread]
    rfl
  · refine congrArg Host.Outcome.next ?_
    rw [State.sendStep_of_inSend h hbulk hnone ((s.bulkRoom_iff _).mpr hroom) hx, State.bulkSent, State.serve_self h, hread]
  · split
    · rename_i hfull
      exact congrArg Host.Outcome.next (State.sendStep_of_held h (.inr (.inl ((s.bulkRoom_eq_false _).mpr hfull))))
    · rename_i hroom
      exact congrArg Host.Outcome.next
        (State.sendStep_of_dirty h hbulk hnone ((s.bulkRoom_iff _).mpr (Nat.lt_of_not_le hroom)) hx hp)
  · exact State.closeCompleted_of_first_pass h hbulk hnone (by rwa [← Bool.not_eq_true, State.firstPassDone_iff]) n
  · rw [State.closeCompleted_of_covered h hbulk hnone ((s.firstPassDone_iff v).mpr hall), if_neg (Nat.not_le_of_lt hlong)]
    rfl
  · rw [State.closeCompleted_of_covered h hbulk hnone ((s.firstPassDone_iff v).mpr hall), if_pos hshort]
    rfl
  · rw [State.verdictHanded_of_serve h, Serve.judged_of_pending hbulk hpending]
    exact if_neg (by simp [Serve.confirm])
  · rw [State.verdictHanded_of_serve h, Serve.judged_of_pending hbulk hpending]
    exact if_neg fun hc => hlimit.ne hc.2

end Sys2Proof.Machine
end

section
/-! The steps of FINAL: the pages of the final set, LOCK-IMAGE and SYNC-MARK (R137, R142, R158). -/

namespace Sys2Proof.Machine

theorem Serve.allSent_iff (v : Serve) : v.allSent = true ↔ v.inSend = none ∧ ∀ p ∈ v.finalSet, p ∈ v.fullySent := by
  simp [Serve.allSent, setCovered_iff]

theorem Serve.chooseFinal_of_inSend {v : Serve} {x : InSend} (h : v.inSend = some x) : v.chooseFinal = some (v, x) := by
  unfold Serve.chooseFinal
  rw [h]

/-- With no page in send, FINAL chooses the lowest unsent page of the final set, from its slot if it has one (R142). -/
theorem Serve.chooseFinal_of_unsent {v : Serve} {p : Nat} (h : v.inSend = none)
    (hp : v.finalSet.find? (fun q => !v.fullySent.contains q) = some p) :
    v.chooseFinal = some ({ v with inSend := some ⟨p, 0, (v.slotOf p).isSome⟩ }, ⟨p, 0, (v.slotOf p).isSome⟩) := by
  unfold Serve.chooseFinal
  rw [h]
  dsimp only []
  rw [hp]

namespace State

variable {s : State} {v : Serve}

/-! ### Pages of the final set -/

/-- In FINAL a full bulk queue holds every step back (R137, R158). -/
theorem finalSendStep_of_no_room (h : s.serve = some v) (hfull : s.bulkRoom v.receiver = false) : s.finalSendStep = s := by
  unfold finalSendStep
  rw [h]
  dsimp only []
  rw [hfull]
  cases v.phase <;> cases v.chooseFinal <;> rfl

/-- The words that a send step in FINAL sends, with the state after the read: those of the page's slot, or of the store
(R142). -/
def finalRead (s : State) (v : Serve) (x : InSend) : State × Option (List Word) :=
  if x.fromSlot then (s, some (v.slotWords x s.config.burst)) else s.readRun x.page .send x.next s.config.burst

/-- The state after a send step in FINAL that has chosen its page: the burst queued unless its read found a DOUBLE word
(R137, R142). -/
def finalSent (s : State) (w : Serve) (x : InSend) : State :=
  match ({ s with serve := some w } : State).finalRead w x with
  | (t, some ws) =>
    ({ t with serve := some (w.sentFinal x s.config.burst) } : State).putBulk w.receiver (.page x.page x.next ws)
  | (t, none) => t

theorem finalSendStep_of_chosen (h : s.serve = some v) (hfinal : v.phase = .final) (hroom : s.bulkRoom v.receiver = true)
    {w : Serve} {x : InSend} (hw : v.chooseFinal = some (w, x)) (hreceiver : w.receiver = v.receiver) :
    s.finalSendStep = s.finalSent w x := by
  unfold finalSendStep
  simp only [h, hfinal, hroom, hw]
  rw [← hreceiver]
  rfl

/-- A step that goes on with the page in send (R142). -/
theorem finalSendStep_of_inSend (h : s.serve = some v) (hfinal : v.phase = .final) (hroom : s.bulkRoom v.receiver = true)
    {x : InSend} (hx : v.inSend = some x) : s.finalSendStep = s.finalSent v x :=
  finalSendStep_of_chosen h hfinal hroom (Serve.chooseFinal_of_inSend hx) rfl

/-- A step that takes an unsent page of the final set is the step with that page in send (R142). -/
theorem finalSendStep_of_unsent (h : s.serve = some v) (hfinal : v.phase = .final) (hroom : s.bulkRoom v.receiver = true)
    {p : Nat} (hx : v.inSend = none) (hp : v.finalSet.find? (fun q => !v.fullySent.contains q) = some p) :
    s.finalSendStep =
      ({ s with serve := some { v with inSend := some ⟨p, 0, (v.slotOf p).isSome⟩ } } : State).finalSendStep := by
  rw [finalSendStep_of_chosen h hfinal hroom (Serve.chooseFinal_of_unsent hx hp) rfl, finalSendStep_of_inSend
    (s := { s with serve := some { v with inSend := some ⟨p, 0, (v.slotOf p).isSome⟩ } }) rfl hfinal hroom rfl]
  rfl

/-! ### LOCK-IMAGE and SYNC-MARK -/

/-- LOCK-IMAGE goes after the last page, once, when the bulk queue has room (R142, R158). -/
theorem queueLockImage_eq (h : s.serve = some v) (hfinal : v.phase = .final) : s.queueLockImage =
    if v.allSent = true ∧ v.lockImageQueued = false ∧ s.bulkRoom v.receiver = true then
      ({ s with serve := some { v with lockImageQueued := true } } : State).putBulk v.receiver
        (.lockImage (v.lockImage.getD []))
    else s := by
  unfold queueLockImage
  simp only [h, hfinal, true_and]

/-- SYNC-MARK goes after LOCK-IMAGE, when the bulk queue has room, and ends the serve (R142, R158). -/
theorem queueSyncMark_eq (h : s.serve = some v) (hfinal : v.phase = .final) : s.queueSyncMark =
    if v.lockImageQueued = true ∧ s.bulkRoom v.receiver = true then
      (({ s with serve := none } : State).putBulk v.receiver (.syncMark v.finalCycle (v.keptList.getD []))).raise
        (.restore .donor .served none v.finalCycle)
    else s := by
  unfold queueSyncMark
  simp only [h, hfinal, true_and]

end State

/-- Settles O50, row by row: a page from its slot or the store, the page chosen, LOCK-IMAGE, SYNC-MARK, and the rows that
wait. -/
theorem finalStepsInOrder : Obligations.FinalStepsInOrder := by
  intro s v h hfinal room allSent sent
  have hroom : room → s.bulkRoom v.receiver = true := (s.bulkRoom_iff _).mpr
  have hstep : ∀ x, room → v.inSend = some x → exec .finalSendStep s = .next (s.finalSent v x) := fun x hr hx =>
    congrArg Host.Outcome.next (State.finalSendStep_of_inSend h hfinal (hroom hr) hx)
  have himage := State.queueLockImage_eq h hfinal
  have hmark := State.queueSyncMark_eq h hfinal
  refine ⟨fun x words hr hx hslot hwords => ?_, fun x t words hr hx hstore hread => ?_, fun x t hr hx hstore hread => ?_,
    fun p hr hx hp => ?_, fun timers hr hall hnot hi => ?_, fun list hr hq hl => ?_, fun hr => ?_, fun hnot => ?_,
    fun hnot => ?_⟩
  · rw [hstep x hr hx, State.finalSent, State.serve_self h, State.finalRead, if_pos hslot, Serve.slotWords, hwords]
    rfl
  · rw [hstep x hr hx, State.finalSent, State.serve_self h, State.finalRead, if_neg (by simp [hstore]), hread]
    rfl
  · rw [hstep x hr hx, State.finalSent, State.serve_self h, State.finalRead, if_neg (by simp [hstore]), hread]
  · exact congrArg Host.Outcome.next (State.finalSendStep_of_unsent h hfinal (hroom hr) hx hp)
  · have hi : v.lockImage.getD [] = timers := by rw [hi, Option.getD_some]
    rw [if_pos ⟨v.allSent_iff.mpr hall, hnot, hroom hr⟩, hi] at himage
    exact congrArg Host.Outcome.next himage
  · rw [if_pos ⟨hq, hroom hr⟩, hl] at hmark
    exact congrArg Host.Outcome.next hmark
  · have hfull : s.bulkRoom v.receiver = false := (s.bulkRoom_eq_false _).mpr (Nat.le_of_not_lt hr)
    rw [hfull] at himage hmark
    exact ⟨congrArg Host.Outcome.next (State.finalSendStep_of_no_room h hfull),
      congrArg Host.Outcome.next (himage.trans (if_neg (by simp))),
      congrArg Host.Outcome.next (hmark.trans (if_neg (by simp)))⟩
  · exact congrArg Host.Outcome.next (hmark.trans (if_neg (by simp [hnot])))
  · have hnot : v.allSent ≠ true := fun hall => hnot (v.allSent_iff.mp hall)
    exact congrArg Host.Outcome.next (himage.trans (if_neg (by simp [hnot])))

end Sys2Proof.Machine
end

section
/-! The receiver's attempts: a peer that is heard, the silence timer, and an attempt that fails (R146, R148, R153). -/

namespace Sys2Proof.Machine

/-! ### Heard flags -/

@[simp] theorem Join.setHeard_phase (j : Join) (port : LinkPort) (b : Bool) : (j.setHeard port b).phase = j.phase := by
  cases port <;> rfl
@[simp] theorem Join.setHeard_attempts (j : Join) (port : LinkPort) (b : Bool) :
    (j.setHeard port b).attempts = j.attempts := by cases port <;> rfl
/-- A heard flag set or cleared leaves the other peer's (R145). -/
theorem Join.heard_setHeard_other (j : Join) (port : LinkPort) (b : Bool) :
    (j.setHeard port b).heard (otherPort port) = j.heard (otherPort port) := by cases port <;> rfl

/-- The join record that a failed attempt leaves: WAITING, its candidate no longer heard (R153; log 44). -/
def Join.failed (j : Join) (port : LinkPort) : Join :=
  { j.setHeard port false with phase := .waiting, candidate := none, silence := none }

namespace State

variable {s : State}

/-! ### A peer heard -/

theorem peerHeard_of_no_join (h : s.join = none) (port : LinkPort) : s.peerHeard port = s := by
  unfold peerHeard
  rw [h]

/-- A peer heard while an attempt is under way gets its flag and no more (R146). -/
theorem peerHeard_of_busy {j : Join} (h : s.join = some j) (hbusy : j.phase ≠ .waiting) (port : LinkPort) :
    s.peerHeard port = { s with join := some (j.setHeard port true) } := by
  unfold peerHeard
  rw [h]
  dsimp only []
  rw [Join.setHeard_phase]
  cases hphase : j.phase with
  | waiting => exact absurd hphase hbusy
  | asked => rfl
  | landing => rfl

/-- A peer heard in WAITING is asked (R146). -/
theorem peerHeard_of_waiting {j : Join} (h : s.join = some j) (hwaiting : j.phase = .waiting) (port : LinkPort) :
    s.peerHeard port = s.startAttempt (j.setHeard port true) port := by
  unfold peerHeard
  rw [h]
  dsimp only []
  rw [Join.setHeard_phase, hwaiting]

/-! ### The silence timer -/

/-- A silence timer that runs out fails the attempt with DONOR-SILENT at its instant (R148; log 1). -/
theorem execSilenceTimerExpiry_of_timer {j : Join} {x : Nat} (h : s.join = some j) (hx : j.silence = some x) :
    exec .silenceTimerExpiry s = .next ((s.passTo x).failAttempt .donorSilent (some .donorSilent)) := by
  have htimer : s.silenceTimer = some x := by
    unfold silenceTimer
    rw [h]
    exact hx
  show execSilenceTimerExpiry s = _
  unfold execSilenceTimerExpiry
  rw [htimer]

/-! ### An attempt that fails -/

/-- The state with a failed attempt told to its candidate and raised, before what comes next is chosen (R153). -/
def attemptEnded (s : State) (j : Join) (port : LinkPort) (reason : RestoreReason) (abort : Option RestoreReason) : State :=
  { (match abort with
      | some r => s.putControl port (.joinAbort r)
      | none => s) with
    join := some (j.failed port)
    attention := s.attention.raise (.restore .receiver .failed (some reason) s.vote.lastClosed) }

/-- A failed attempt stops the lane at the fourth, asks the other peer if it has been heard, or leaves the record WAITING
(R153). -/
theorem failAttempt_of_candidate {j : Join} {port : LinkPort} (h : s.join = some j) (hport : j.candidate = some port)
    (reason : RestoreReason) (abort : Option RestoreReason) : s.failAttempt reason abort =
      let ended := s.attemptEnded j port reason abort
      if 4 ≤ j.attempts then ended.stopRequest .joinFailed 0
      else if j.heard (otherPort port) = true then ended.startAttempt (j.failed port) (otherPort port)
      else ended := by
  unfold failAttempt
  simp only [h, hport]
  rw [← Join.heard_setHeard_other j port false]
  cases abort <;> cases port <;> rfl

theorem attemptEnded_kept (j : Join) (port : LinkPort) (reason : RestoreReason) (abort : Option RestoreReason) :
    (s.attemptEnded j port reason abort).lane = s.lane ∧ (s.attemptEnded j port reason abort).time = s.time ∧
      (s.attemptEnded j port reason abort).config = s.config := by
  cases abort <;> cases port <;> exact ⟨rfl, rfl, rfl⟩

/-- The fourth failed attempt stops a JOINING lane, and the join record goes with it (R124, R125, R153). -/
theorem stopRequest_joinFailed (h : s.isJoining = true) (region : Nat) :
    (s.stopRequest .joinFailed region).lane = ⟨some .stopped, false, some .joinFailed, none⟩ ∧
      (s.stopRequest .joinFailed region).join = none := by
  rw [stopRequest_of_joining (isJoining_iff.mp h), enterStopped_eq]
  exact ⟨rfl, rfl⟩

end State

/-- Settles O51: a peer heard by the phase of the record, the end of the silence timer, and a failed attempt by its three
outcomes. -/
theorem attemptFails : Obligations.AttemptFails := by
  refine ⟨fun s port h => State.peerHeard_of_no_join h port, ?_,
    fun s j x h hx => State.execSilenceTimerExpiry_of_timer h hx, ?_⟩
  · intro s port j h heard
    have hheard : heard = j.setHeard port true := by cases port <;> rfl
    rw [hheard]
    refine ⟨fun hbusy => State.peerHeard_of_busy h hbusy port, fun hwaiting => ?_⟩
    rw [State.peerHeard_of_waiting h hwaiting, State.startAttempt, Join.setHeard_attempts]
  · intro s j port reason abort h hport sent back failed t
    have hfailed : failed = s.attemptEnded j port reason abort := by cases abort <;> rfl
    have ht : t = _ := State.failAttempt_of_candidate h hport reason abort
    obtain ⟨hlane, htime, hconfig⟩ := s.attemptEnded_kept j port reason abort
    rw [ht, hfailed]
    dsimp only []
    refine ⟨fun hlast => ?_, fun hmore hunheard => ?_, fun hmore hother => ?_⟩
    · rw [if_pos hlast]
      refine ⟨rfl, fun hjoining => State.stopRequest_joinFailed ?_ 0⟩
      rw [State.isJoining_iff] at hjoining ⊢
      rw [hlane, hjoining]
    · rw [if_neg (Nat.not_le_of_lt hmore), if_neg (by simp [hunheard])]
    · have hattempts : (j.failed port).attempts = j.attempts := j.setHeard_attempts port false
      rw [if_neg (Nat.not_le_of_lt hmore), if_pos hother, State.startAttempt, hattempts, htime, hconfig]
      rfl

end Sys2Proof.Machine
end

section
/-! The line of a link: what a frame in part received leaves, the arbiter's choice, the end of a frame with the send step it
lets go on, and the two queues (R157 to R161). -/

namespace Sys2Proof.Machine

/-! ### The arbiter and the queues -/

section
variable {l : Link} (now : Nat) (f : LinkFrame)

theorem Link.arbitrate_of_leaving (h : l.leaving ≠ none) : l.arbitrate now = l := by
  cases hl : l.leaving with
  | none => exact absurd hl h
  | some x => rw [Link.arbitrate, hl]

theorem Link.arbitrate_of_control {g : LinkFrame} {rest : List LinkFrame} (h : l.leaving = none) (hc : l.control = g :: rest) :
    l.arbitrate now = { l with control := rest, leaving := some (g, .control), idleFrom := now } := by
  rw [Link.arbitrate, h, hc]
  rfl

theorem Link.arbitrate_of_bulk {g : LinkFrame} {rest : List LinkFrame} (h : l.leaving = none) (hc : l.control = [])
    (hb : l.bulk = g :: rest) : l.arbitrate now = { l with bulk := rest, leaving := some (g, .bulk), idleFrom := now } := by
  rw [Link.arbitrate, h, hc, hb]
  rfl

theorem Link.arbitrate_of_empty (hc : l.control = []) (hb : l.bulk = []) : l.arbitrate now = l := by
  rw [Link.arbitrate, hc, hb]
  cases l.leaving <;> rfl

theorem Link.quiet_of_empty (h : l.leaving = none) (hc : l.control = []) (hb : l.bulk = []) : l.quiet = true := by
  rw [Link.quiet, h, hc, hb]
  rfl

/-- On a quiet line with no frame waiting a control frame leaves at once (R157, R159). -/
theorem Link.putControl_quiet (h : l.leaving = none) (hc : l.control = []) :
    l.putControl now f = { l with leaving := some (f, .control), idleFrom := now } := by
  have hput : controlPut l.control f = [f] := by rw [hc]; rfl
  rw [Link.putControl, Link.arbitrate_of_control (l := { l with control := controlPut l.control f }) now h hput, ← hc]

/-- On a quiet line with no frame waiting a bulk frame leaves at once (R158, R159). -/
theorem Link.putBulk_quiet (h : l.leaving = none) (hc : l.control = []) (hb : l.bulk = []) :
    l.putBulk now f = { l with leaving := some (f, .bulk), idleFrom := now } := by
  have hput : l.bulk ++ [f] = [f] := by rw [hb]; rfl
  rw [Link.putBulk, Link.arbitrate_of_bulk (l := { l with bulk := l.bulk ++ [f] }) now h hc hput, ← hb]
end

theorem controlPut_of_room {q : List LinkFrame} (f : LinkFrame) (h : q.length < 4) : controlPut q f = q ++ [f] := if_pos h

theorem controlPut_of_full {q : List LinkFrame} (f : LinkFrame) (h : 4 ≤ q.length) :
    controlPut q f = if q.any LinkFrame.isDigest then q.eraseP LinkFrame.isDigest ++ [f] else q :=
  if_neg (Nat.not_lt_of_le h)

/-- In a full queue the oldest DIGEST makes room (R157). -/
theorem controlPut_of_digest {before : List LinkFrame} {d : LinkFrame} (after : List LinkFrame) (f : LinkFrame)
    (hbefore : ∀ x ∈ before, x.isDigest = false) (hd : d.isDigest = true) (hfull : 4 ≤ (before ++ d :: after).length) :
    controlPut (before ++ d :: after) f = before ++ after ++ [f] := by
  have hany : (before ++ d :: after).any LinkFrame.isDigest = true := List.any_eq_true.mpr ⟨d, by simp, hd⟩
  have herase : (before ++ d :: after).eraseP LinkFrame.isDigest = before ++ after := by
    rw [List.eraseP_append_right _ (by simpa using hbefore), List.eraseP_cons_of_pos hd]
  rw [controlPut_of_full f hfull, if_pos hany, herase]

/-- In a full queue with no DIGEST a new frame is discarded (R157). -/
theorem controlPut_of_no_digest {q : List LinkFrame} (f : LinkFrame) (hfull : 4 ≤ q.length)
    (hnone : ∀ x ∈ q, x.isDigest = false) : controlPut q f = q := by
  rw [controlPut_of_full f hfull, if_neg (by simpa using hnone)]

/-! ### Words in part received -/

namespace State

variable {s : State} {port : LinkPort}

theorem checkFail_setLinkRx (s : State) (port : LinkPort) (rx : List Word) : (s.setLinkRx port rx).checkFail port =
    (s.setLink port { s.link port with
      rx := rx
      errors := if (s.link port).errors < 255 then (s.link port).errors + 1 else (s.link port).errors }).raise
        (.link (s.peerLane port) .checkFail) := by
  cases port <;> rfl

/-- A cut-off ends the frame in part received, which fails its check (R161). -/
theorem execLinkReceiveCutOff_of_part {w : Word} {ws : List Word} (h : (s.link port).rx = w :: ws) :
    exec (.linkReceiveCutOff port) s = .next ((s.setLinkRx port []).checkFail port) := by
  show execLinkReceiveCutOff port s = _
  rw [execLinkReceiveCutOff, h]

/-! ### The end of a frame and the idle fill -/

theorem execTransmitEnd_of_leaving {x : LinkFrame × LinkQueue} (h : (s.link port).leaving = some x) :
    exec (.transmitEnd port) s = .next (s.transmitEnded port) := by
  show execTransmitEnd port s = _
  rw [execTransmitEnd, h]

/-- The end of a frame is the arbiter's choice, and no more where the bulk queue does not go from full to not full (R158,
R159). -/
theorem transmitEnded_of_no_room_made {l : Link} (hl : ({ s.link port with leaving := none } : Link).arbitrate s.time = l)
    (h : (s.link port).bulk.length < 2 ∨ 2 ≤ l.bulk.length) : s.transmitEnded port = s.setLink port l := by
  have hroom : ¬ ((!s.bulkRoom port && (s.setLink port l).bulkRoom port) = true) := by
    rw [Bool.and_eq_true, Bool.not_eq_true', bulkRoom_eq_false, bulkRoom_iff, link_setLink, if_pos rfl]
    omega
  rw [transmitEnded, hl]
  exact if_neg hroom

/-- The frame that leaves a full bulk queue lets a serve over the link make its next step (R158). -/
theorem transmitEnded_of_room_made {l : Link} (hl : ({ s.link port with leaving := none } : Link).arbitrate s.time = l)
    (hfull : 2 ≤ (s.link port).bulk.length) (hroom : l.bulk.length < 2) :
    s.transmitEnded port = (s.setLink port l).resumeSend port := by
  have hmade : (!s.bulkRoom port && (s.setLink port l).bulkRoom port) = true := by
    rw [Bool.and_eq_true, Bool.not_eq_true', bulkRoom_eq_false, bulkRoom_iff, link_setLink, if_pos rfl]
    exact ⟨hfull, hroom⟩
  rw [transmitEnded, hl]
  exact if_pos hmade

/-- A control frame waiting leaves first (R159). -/
theorem transmitEnded_control {f : LinkFrame} {fs : List LinkFrame} (hc : (s.link port).control = f :: fs) :
    s.transmitEnded port = s.setLink port { s.link port with
      control := fs, leaving := some (f, .control), idleFrom := s.time } :=
  transmitEnded_of_no_room_made (Link.arbitrate_of_control _ rfl hc) (Nat.lt_or_ge _ 2)

/-- With no frame waiting the line falls quiet (R159). -/
theorem transmitEnded_empty (hc : (s.link port).control = []) (hb : (s.link port).bulk = []) :
    s.transmitEnded port = s.setLink port { s.link port with leaving := none } :=
  transmitEnded_of_no_room_made (Link.arbitrate_of_empty _ hc hb) (Nat.lt_or_ge _ 2)

section
variable {f : LinkFrame} {fs : List LinkFrame} (hc : (s.link port).control = []) (hb : (s.link port).bulk = f :: fs)
include hc hb

/-- With no control frame waiting the oldest bulk frame leaves (R159). -/
theorem transmitEnded_bulk (h : (s.link port).bulk.length ≠ 2 ∨ s.serving port = false) :
    s.transmitEnded port = s.setLink port { s.link port with
      bulk := fs, leaving := some (f, .bulk), idleFrom := s.time } := by
  have hl := Link.arbitrate_of_bulk (l := { s.link port with leaving := none }) s.time rfl hc hb
  have hlen : (s.link port).bulk.length = fs.length + 1 := by rw [hb]; rfl
  by_cases htwo : (s.link port).bulk.length = 2
  · have hidle : s.serving port = false := h.resolve_left (absurd htwo)
    rw [transmitEnded_of_room_made hl (by omega) (by show fs.length < 2; omega)]
    exact resumeSend_of_not_serving (by rwa [serving, setLink_serve])
  · exact transmitEnded_of_no_room_made hl (by show _ ∨ 2 ≤ fs.length; omega)

/-- With the head of a full bulk queue leaving, the serve over the link makes the send step of its phase (R158; log 41). -/
theorem transmitEnded_bulk_resumes {v : Serve} (htwo : (s.link port).bulk.length = 2) (hv : s.serve = some v)
    (hr : v.receiver = port) :
    let left := s.setLink port { s.link port with bulk := fs, leaving := some (f, .bulk), idleFrom := s.time }
    s.transmitEnded port = match v.phase with
      | .bulk => left.sendStep
      | .final => left.finalSendStep := by
  have hl := Link.arbitrate_of_bulk (l := { s.link port with leaving := none }) s.time rfl hc hb
  have hlen : (s.link port).bulk.length = fs.length + 1 := by rw [hb]; rfl
  rw [transmitEnded_of_room_made hl (by omega) (by show fs.length < 2; omega)]
  exact resumeSend_of_serve (by rw [setLink_serve, hv]) hr

end

/-- On a quiet line an idle fill leaves, 5 ms past the last departure (R160; log 1). -/
theorem execIdleFill_of_quiet (hsweep : s.sweep = none) (hquiet : (s.link port).quiet = true) :
    exec (.idleFill port) s = .next ((s.passTo ((s.link port).idleFrom + 5)).sendFill port) := by
  show execIdleFill port s = _
  rw [execIdleFill, if_pos (by rw [sweeping, hsweep, hquiet]; rfl)]

theorem sendFill_passTo (s : State) (port : LinkPort) (t : Nat) : (s.passTo t).sendFill port =
    ({ s with time := max s.time t } : State).setLink port
      { s.link port with leaving := some (⟨s.config.lane, .idleFill⟩, .fill), idleFrom := max s.time t } := by
  cases port <;> rfl

end State

/-- Settles O47: the cut-off, the end of a frame by what waits, the idle fill, and a frame put on each queue by what leaves
and what waits. -/
theorem linkLineEvents : Obligations.LinkLineEvents := by
  refine ⟨fun s port w ws h => ?_, fun s port x h => ⟨fun f fs hc => ?_, fun f fs hc hb => ⟨fun hstay => ?_, ?_⟩,
    fun hc hb => ?_⟩, fun s port hsweep h hc hb => ?_, fun s port b => rfl, fun l now f => ⟨Link.putControl_busy now f,
    Link.putControl_quiet now f, fun g rest h hput => Link.arbitrate_of_control now h hput⟩, fun s port b => rfl,
    fun l now f => ⟨Link.putBulk_busy now f, Link.putBulk_quiet now f, fun g rest h hc hb => ?_, fun g rest h hc => ?_⟩,
    fun q f h => controlPut_of_room f h,
    fun before after d f hbefore hd hfull => controlPut_of_digest after f hbefore hd hfull,
    fun q f hfull hnone => controlPut_of_no_digest f hfull hnone⟩
  · rw [State.execLinkReceiveCutOff_of_part h, State.checkFail_setLinkRx]
  · rw [State.execTransmitEnd_of_leaving h, State.transmitEnded_control hc]
  · rw [State.execTransmitEnd_of_leaving h, State.transmitEnded_bulk hc hb hstay]
  · intro v htwo hv hr
    rw [State.execTransmitEnd_of_leaving h, State.transmitEnded_bulk_resumes hc hb htwo hv hr]
    cases v.phase <;> rfl
  · rw [State.execTransmitEnd_of_leaving h, State.transmitEnded_empty hc hb]
  · rw [State.execIdleFill_of_quiet hsweep (Link.quiet_of_empty h hc hb), State.sendFill_passTo]
  · exact Link.arbitrate_of_bulk now h hc (by rw [hb]; rfl)
  · exact Link.arbitrate_of_control now h hc

end Sys2Proof.Machine
end

section
/-! Link frames on the line: every frame that fits its words is read back from them, which frames fail the check, and what a
link makes of the words it receives (R156, R161 to R163, R186, R188). -/

namespace Sys2Proof.Machine

/-! ### Codes and fields read back -/

theorem toNat_ofNat_word {n : Nat} (h : n < 65536) : (BitVec.ofNat 16 n).toNat = n := by
  rw [BitVec.toNat_ofNat]
  exact Nat.mod_eq_of_lt h

theorem readCycle_cycleWords {n : Nat} (h : n < 4294967296) :
    readCycle (BitVec.ofNat 16 (n / 65536)) (BitVec.ofNat 16 n) = n := by
  rw [readCycle, BitVec.toNat_ofNat, BitVec.toNat_ofNat]
  omega

theorem declineReason_code {r : RestoreReason} (h : r.isDecline = true) : declineReason r.code = some r := by
  revert h
  cases r <;> decide

theorem abortReason_code {r : RestoreReason} (h : r.isAbort = true) : abortReason r.code = some r := by
  revert h
  cases r <;> decide

theorem RestoreReason.code_lt (r : RestoreReason) : r.code < 65536 := by cases r <;> decide

theorem LockState.ofCode_code (st : LockState) : LockState.ofCode st.code = some st := by cases st <;> rfl

theorem readMode_code (mode : Option LockMode) : readMode (codeOr 0 LockMode.code mode) = some mode := by
  rcases mode with _ | mode
  · rfl
  · cases mode <;> rfl

theorem LockState.code_lt (st : LockState) : st.code < 3 := by cases st <;> decide

theorem LockMode.codeOr_lt (mode : Option LockMode) : codeOr 0 LockMode.code mode < 4 := by
  rcases mode with _ | mode
  · decide
  · cases mode <;> decide

/-! ### Lists read back -/

/-- An entry is read back from its two words; the digest 65536 is the carry into the id's high byte (R188). -/
theorem readEntry_entryWords {e : Nat × Digest} (h : e.1 < 256) :
    ∃ a b, entryWords e = [a, b] ∧ readEntry a b = some e := by
  obtain ⟨i, d⟩ := e
  refine ⟨_, _, rfl, ?_⟩
  have hd := d.isLt
  dsimp only [] at h ⊢
  by_cases hcarry : d.val = 65536
  · have ha : (BitVec.ofNat 16 (i + 256)).toNat = i + 256 := toNat_ofNat_word (by omega)
    have hd : Fin.ofNat 65537 65536 = d := Fin.ext hcarry.symm
    rw [if_pos hcarry, hcarry, readEntry, ha, if_neg (by omega), if_pos ⟨by omega, rfl⟩, hd]
    congr 2
    omega
  · have ha : (BitVec.ofNat 16 (i + 0)).toNat = i := toNat_ofNat_word (by omega)
    have hb : (BitVec.ofNat 16 d.val).toNat = d.val := toNat_ofNat_word (by omega)
    rw [if_neg hcarry, readEntry, ha, hb, if_pos (by omega), Nat.mod_eq_of_lt h]
    congr 2
    exact Fin.ext (Nat.mod_eq_of_lt hd)

theorem readList_flatMap {l : DigestList} (h : ∀ e ∈ l, e.1 < 256) : readList (l.flatMap entryWords) = some l := by
  induction l with
  | nil => rfl
  | cons e l ih =>
    obtain ⟨a, b, hwords, he⟩ := readEntry_entryWords (h e (List.mem_cons_self ..))
    have hl := ih fun e' he' => h e' (List.mem_cons_of_mem _ he')
    rw [List.flatMap_cons, hwords, List.cons_append, List.cons_append, List.nil_append, readList_cons, he, hl]
    rfl

/-- A cycle number takes two words, and so does each entry of a list (R188). -/
theorem length_listWords (cycle : Nat) (l : DigestList) :
    (cycleWords cycle ++ l.flatMap entryWords).length = 2 * l.length + 2 := by
  simp [cycleWords, entryWords]
  omega

/-- What fits the words of a list (R188). -/
theorem DigestList.fits_iff (l : DigestList) :
    DigestList.fits l = true ↔ (1 ≤ l.length ∧ l.length ≤ 17) ∧ ∀ e ∈ l, e.1 < 256 := by
  simp [DigestList.fits]

/-! ### Lock records read back -/

/-- What fits the five words of a lock record (R188). -/
theorem LockTimer.fits_iff (t : LockTimer) : t.fits = true ↔
    (∀ g, t.gate = some g → g < 65535) ∧ t.preset < 65536 ∧ (∀ p, t.pending = some p → 1 ≤ p ∧ p < 65536) ∧
      -4096 ≤ t.remaining ∧ t.remaining < 61440 := by
  unfold LockTimer.fits
  cases t.gate <;> cases t.pending <;> simp [and_assoc]

/-- A gate address, or the code 65535 for none (R188). -/
theorem readGate_word {gate : Option Nat} (h : ∀ g, gate = some g → g < 65535) :
    (if (BitVec.ofNat 16 (gate.getD 65535)).toNat = 65535 then none
      else some (BitVec.ofNat 16 (gate.getD 65535)).toNat) = gate := by
  cases gate with
  | none => rfl
  | some g =>
    have hg := h g rfl
    rw [Option.getD_some, toNat_ofNat_word (by omega), if_neg (by omega)]

/-- A pending value, or the code 0 for none (R188). -/
theorem readPending_word {pending : Option Nat} (h : ∀ p, pending = some p → 1 ≤ p ∧ p < 65536) :
    (if BitVec.ofNat 16 (pending.getD 0) = 0 then none else some (BitVec.ofNat 16 (pending.getD 0)).toNat) = pending := by
  cases pending with
  | none => rfl
  | some p =>
    obtain ⟨hpos, hlt⟩ := h p rfl
    have hp := toNat_ofNat_word hlt
    have hne : BitVec.ofNat 16 p ≠ 0 := fun h0 => by
      rw [h0] at hp
      exact absurd hp (Nat.ne_of_lt hpos)
    rw [Option.getD_some, if_neg hne, hp]

/-- The first word of a lock record: the state, the overrange bit and the mode (R188). -/
theorem readTimer_head (t : LockTimer) (w : Word)
    (h : w = BitVec.ofNat 16 (t.state.code * 256 + codeOr 0 LockMode.code t.mode + (if t.overrange then 128 else 0))) :
    LockState.ofCode (w.toNat / 256) = some t.state ∧ readMode (w.toNat % 128) = some t.mode ∧
      w.getLsbD 7 = t.overrange := by
  have hst := t.state.code_lt
  have hmode := LockMode.codeOr_lt t.mode
  have hw : w.toNat = t.state.code * 256 + codeOr 0 LockMode.code t.mode + (if t.overrange then 128 else 0) := by
    rw [h, toNat_ofNat_word (by split <;> omega)]
  rw [← t.state.ofCode_code, ← readMode_code t.mode, BitVec.getLsbD, Nat.testBit_eq_decide_div_mod_eq, hw]
  refine ⟨congrArg _ ?_, congrArg _ ?_, ?_⟩
  · split <;> omega
  · split <;> omega
  · cases t.overrange
    · exact decide_eq_false (by norm_num; omega)
    · exact decide_eq_true (by norm_num; omega)

/-- A lock record is read back from its five words (R188). -/
theorem readTimer_encode {t : LockTimer} (h : t.fits = true) :
    ∃ w1 w2 w3 w4 w5, t.encode = [w1, w2, w3, w4, w5] ∧ readTimer w1 w2 w3 w4 w5 = some t := by
  obtain ⟨hgate, hpreset, hpending, hlow, hhigh⟩ := t.fits_iff.mp h
  obtain ⟨hstate, hmode, hover⟩ := readTimer_head t _ rfl
  have hremaining : ((BitVec.ofNat 16 (t.remaining + 4096).toNat).toNat : Int) - 4096 = t.remaining := by
    rw [toNat_ofNat_word (by omega)]
    omega
  refine ⟨_, _, _, _, _, rfl, ?_⟩
  rw [readTimer, hstate, hmode]
  dsimp only []
  rw [readGate_word hgate, readPending_word hpending, hremaining, hover, toNat_ofNat_word hpreset]

theorem readTimers_flatMap {ts : List LockTimer} (h : ∀ t ∈ ts, t.fits = true) :
    readTimers (ts.flatMap LockTimer.encode) = some ts := by
  induction ts with
  | nil => rfl
  | cons t ts ih =>
    obtain ⟨w1, w2, w3, w4, w5, hwords, ht⟩ := readTimer_encode (h t (List.mem_cons_self ..))
    have hts := ih fun u hu => h u (List.mem_cons_of_mem _ hu)
    simp only [List.flatMap_cons, hwords, List.cons_append, List.nil_append, readTimers, ht, hts]

theorem length_flatMap_encode (ts : List LockTimer) : (ts.flatMap LockTimer.encode).length = 5 * ts.length := by
  simp [LockTimer.encode, Nat.mul_comm]

/-! ### Frames read back -/

/-- The lengths of each kind (R161, R188). -/
theorem lengthFits_iff (kind length count : Nat) : lengthFits kind length count = true ↔
    kind = 0 ∧ length = 3 ∨ (kind = 1 ∨ kind = 8) ∧ 8 ≤ length ∧ length ≤ 40 ∧ length % 2 = 0 ∨
      kind = 2 ∧ length = 4 ∨ (kind = 3 ∨ kind = 4 ∨ kind = 5) ∧ length = 5 ∨
      kind = 6 ∧ 7 ≤ length ∧ length ≤ 134 ∧ length = count + 6 ∨ kind = 7 ∧ length = 244 := by
  unfold lengthFits
  repeat' split
  all_goals simp only [beq_iff_eq, Bool.and_eq_true, decide_eq_true_eq, Bool.false_eq_true, false_iff]
  all_goals omega

/-- The sender word's two bytes (R188). -/
theorem senderWord_toNat {sender low : Nat} (hs : sender < 256) (hl : low < 256) :
    (BitVec.ofNat 16 (sender * 256 + low)).toNat / 256 = sender ∧
      (BitVec.ofNat 16 (sender * 256 + low)).toNat % 256 = low := by
  rw [toNat_ofNat_word (by omega)]
  omega

/-- The body of every frame but the idle fill is read back from its words (R188). -/
theorem readBody_words {f : LinkFrame} (h : f.fits = true) (hbody : f.body ≠ .idleFill) :
    readBody f.body.kind (BitVec.ofNat 16 (f.sender * 256 + f.body.senderLow)) f.body.words = some f.received := by
  obtain ⟨sender, body⟩ := f
  rw [LinkFrame.fits, Bool.and_eq_true, decide_eq_true_eq] at h
  obtain ⟨hs, hfits⟩ := h
  dsimp only [] at hs hfits hbody ⊢
  cases body with
  | digest cycle confirmed list =>
    rw [Bool.and_eq_true, decide_eq_true_eq, DigestList.fits_iff] at hfits
    obtain ⟨hcycle, -, hlist⟩ := hfits
    obtain ⟨hhigh, hlow⟩ := senderWord_toNat (low := if confirmed then 1 else 0) hs (by split <;> decide)
    simp only [LinkBody.words, LinkBody.kind, LinkBody.senderLow, cycleWords, List.cons_append, List.nil_append, readBody,
      LinkFrame.received, hhigh, hlow, readCycle_cycleWords hcycle, readList_flatMap hlist]
    cases confirmed <;> rfl
  | joinAsk =>
    obtain ⟨hhigh, -⟩ := senderWord_toNat (low := 0) hs (by decide)
    exact congrArg (fun n => some (Received.joinAsk n)) hhigh
  | joinOffer pages =>
    exact congrArg (fun n => some (Received.joinOffer n)) (toNat_ofNat_word (of_decide_eq_true hfits))
  | joinDecline reason =>
    have hcode := declineReason_code hfits
    rw [← toNat_ofNat_word reason.code_lt] at hcode
    exact congrArg (fun r => some (Received.joinDecline r)) hcode
  | joinAbort reason =>
    have hcode := abortReason_code hfits
    rw [← toNat_ofNat_word reason.code_lt] at hcode
    exact congrArg (fun r => some (Received.joinAbort r)) hcode
  | page page offset words =>
    simp only [Bool.and_eq_true, decide_eq_true_eq] at hfits
    obtain ⟨⟨hpage, hoffset⟩, -⟩ := hfits
    obtain ⟨hhigh, hlow⟩ := senderWord_toNat hpage hoffset
    simp only [LinkBody.words, LinkBody.kind, readBody, hhigh, hlow, LinkFrame.received]
  | lockImage timers =>
    rw [Bool.and_eq_true, List.all_eq_true] at hfits
    exact congrArg (fun ts => some (Received.lockImage ts)) (readTimers_flatMap hfits.2)
  | syncMark cycle list =>
    rw [Bool.and_eq_true, decide_eq_true_eq, DigestList.fits_iff] at hfits
    obtain ⟨hcycle, -, hlist⟩ := hfits
    simp only [LinkBody.words, LinkBody.kind, cycleWords, List.cons_append, List.nil_append, readBody, LinkFrame.received,
      readCycle_cycleWords hcycle, readList_flatMap hlist]
  | idleFill => exact absurd rfl hbody

theorem LinkBody.kind_lt (b : LinkBody) : b.kind < 9 := by cases b <;> simp [LinkBody.kind]

/-- A frame that fits has a length of its kind (R188). -/
theorem LinkFrame.lengthFits_of_fits {f : LinkFrame} (h : f.fits = true) (check : Word) :
    lengthFits f.body.kind (f.rest.length + 3) (((f.rest ++ [check])[2]?).getD 0).toNat = true := by
  obtain ⟨sender, body⟩ := f
  rw [LinkFrame.fits, Bool.and_eq_true] at h
  replace h := h.2
  rw [lengthFits_iff]
  cases body with
  | digest cycle confirmed list =>
    rw [Bool.and_eq_true, DigestList.fits_iff] at h
    obtain ⟨-, hlen, -⟩ := h
    have hrest : (LinkFrame.rest ⟨sender, .digest cycle confirmed list⟩).length = 2 * list.length + 3 :=
      congrArg (· + 1) (length_listWords cycle list)
    dsimp only [LinkBody.kind]
    omega
  | syncMark cycle list =>
    rw [Bool.and_eq_true, DigestList.fits_iff] at h
    obtain ⟨-, hlen, -⟩ := h
    have hrest : (LinkFrame.rest ⟨sender, .syncMark cycle list⟩).length = 2 * list.length + 3 :=
      congrArg (· + 1) (length_listWords cycle list)
    dsimp only [LinkBody.kind]
    omega
  | page page offset words =>
    simp only [Bool.and_eq_true, decide_eq_true_eq] at h
    obtain ⟨-, hlen⟩ := h
    have hrest : (LinkFrame.rest ⟨sender, .page page offset words⟩).length = words.length + 3 := rfl
    have hcount : (BitVec.ofNat 16 words.length).toNat = words.length := toNat_ofNat_word (by omega)
    show _ ∨ _ ∨ _ ∨ _ ∨ 6 = 6 ∧ _ ∧ _ ∧ _ = (BitVec.ofNat 16 words.length).toNat + 6 ∨ _
    omega
  | lockImage timers =>
    rw [Bool.and_eq_true, decide_eq_true_eq] at h
    have hrest : (LinkFrame.rest ⟨sender, .lockImage timers⟩).length = 5 * timers.length + 1 := by
      rw [← length_flatMap_encode]
      rfl
    dsimp only [LinkBody.kind]
    omega
  | idleFill => exact .inl ⟨rfl, rfl⟩
  | joinAsk => exact .inr (.inr (.inl ⟨rfl, rfl⟩))
  | joinOffer | joinDecline | joinAbort => exact .inr (.inr (.inr (.inl ⟨by simp [LinkBody.kind], rfl⟩)))

/-! ### The check of a frame received whole -/

section
variable {w head : Word} {rest : List Word}

/-- The check word is right and the length is one of the kind (R161). -/
def LinkCheck (head : Word) (rest : List Word) : Prop :=
  rest.getLast? = some (crcWords (head :: rest.dropLast)) ∧
    lengthFits (head.toNat / 4096) (head.toNat % 4096) ((rest[2]?).getD 0).toNat = true

theorem checkLinkFrame_idle (hlen : head.toNat % 4096 = rest.length + 2) (h : LinkCheck head rest)
    (hkind : head.toNat / 4096 = 0) : checkLinkFrame (w :: head :: rest) = some .idleFill := by
  obtain ⟨hcrc, hfits⟩ := h
  rw [checkLinkFrame]
  rw [if_pos ⟨hcrc, hlen, hfits⟩, hkind]
  rfl

theorem checkLinkFrame_body {sender : Word} {body : List Word} (hlen : head.toNat % 4096 = rest.length + 2)
    (h : LinkCheck head rest) (hkind : head.toNat / 4096 ≠ 0) (hbody : rest.dropLast = sender :: body) :
    checkLinkFrame (w :: head :: rest) = readBody (head.toNat / 4096) sender body := by
  obtain ⟨hcrc, hfits⟩ := h
  rw [checkLinkFrame]
  obtain ⟨k, hk⟩ := Nat.exists_eq_succ_of_ne_zero hkind
  rw [if_pos ⟨hcrc, hlen, hfits⟩, hk, hbody]
  rfl

theorem checkLinkFrame_failed (h : ¬ LinkCheck head rest) : checkLinkFrame (w :: head :: rest) = none := by
  rw [checkLinkFrame]
  exact if_neg fun ⟨hcrc, _, hfits⟩ => h ⟨hcrc, hfits⟩

/-- A body of a length of its kind is read (R162, R188). -/
theorem readBody_isSome {kind count : Nat} {body : List Word} (sender : Word) (hkind : kind ≠ 0)
    (h : lengthFits kind (body.length + 4) count = true) : (readBody kind sender body).isSome = true := by
  rw [lengthFits_iff] at h
  rcases h with ⟨h0, -⟩ | ⟨rfl | rfl, hlen, -⟩ | ⟨rfl, hlen⟩ | ⟨rfl | rfl | rfl, hlen⟩ | ⟨rfl, hlen, -⟩ | ⟨rfl, -⟩
  · exact absurd h0 hkind
  · match body, hlen with
    | _ :: _ :: _, _ => rfl
  · match body, hlen with
    | _ :: _ :: _, _ => rfl
  · match body, hlen with
    | [], _ => rfl
  · match body, hlen with
    | [_], _ => rfl
  · match body, hlen with
    | [_], _ => rfl
  · match body, hlen with
    | [_], _ => rfl
  · match body, hlen with
    | _ :: _ :: _, _ => rfl
  · rfl

/-- A frame received whole fails exactly where its check word or its length is wrong: every other one has contents (R161,
R162). -/
theorem checkLinkFrame_eq_none_iff (hlen : head.toNat % 4096 = rest.length + 2) :
    checkLinkFrame (w :: head :: rest) = none ↔ ¬ LinkCheck head rest := by
  refine ⟨fun hnone h => ?_, checkLinkFrame_failed⟩
  by_cases hkind : head.toNat / 4096 = 0
  · rw [checkLinkFrame_idle hlen h hkind] at hnone
    cases hnone
  · have hfits := h.2
    have hdrop : rest.dropLast.length + 3 = head.toNat % 4096 := by
      rw [List.length_dropLast]
      have := (lengthFits_iff ..).mp hfits
      omega
    cases hbody : rest.dropLast with
    | nil =>
      rw [hbody] at hdrop
      have := (lengthFits_iff ..).mp hfits
      simp only [List.length_nil] at hdrop
      omega
    | cons sender body =>
      rw [hbody] at hdrop
      rw [← hdrop] at hfits
      rw [checkLinkFrame_body hlen h hkind hbody] at hnone
      have hsome := readBody_isSome sender hkind hfits
      rw [hnone] at hsome
      cases hsome

/-- The check, with a PAGE's count read where a PAGE has it (R161, R188). -/
theorem linkCheck_iff (hlen : head.toNat % 4096 = rest.length + 2) :
    let kind := head.toNat / 4096
    let length := head.toNat % 4096
    LinkCheck head rest ↔ rest.getLast? = some (crcWords (head :: rest.dropLast)) ∧
      (kind = 0 ∧ length = 3 ∨ (kind = 1 ∨ kind = 8) ∧ 8 ≤ length ∧ length ≤ 40 ∧ length % 2 = 0 ∨
        kind = 2 ∧ length = 4 ∨ (kind = 3 ∨ kind = 4 ∨ kind = 5) ∧ length = 5 ∨
        kind = 6 ∧ 7 ≤ length ∧ length ≤ 134 ∧ (∃ count, rest[2]? = some count ∧ length = count.toNat + 6) ∨
        kind = 7 ∧ length = 244) := by
  dsimp only []
  rw [LinkCheck, lengthFits_iff]
  by_cases hcount : 2 < rest.length
  · simp [List.getElem?_eq_getElem hcount]
  · have hshort : ¬ 7 ≤ head.toNat % 4096 := by omega
    simp [hshort]

end

/-! ### Frames sent -/

namespace LinkFrame

variable {f : LinkFrame}

/-- The kind-and-length word of a frame (R188). -/
def head (f : LinkFrame) : Word := BitVec.ofNat 16 (f.body.kind * 4096 + (f.rest.length + 3))

/-- A frame's words: the sync word, the kind and length, the rest and the check word (R188). -/
theorem words_eq (f : LinkFrame) : f.words = 0x5AC3#16 :: f.head :: (f.rest ++ [crcWords (f.head :: f.rest)]) := rfl

theorem head_toNat (h : f.fits = true) :
    f.head.toNat / 4096 = f.body.kind ∧ f.head.toNat % 4096 = f.rest.length + 3 := by
  have hlen := (lengthFits_iff ..).mp (lengthFits_of_fits h 0)
  have hkind := f.body.kind_lt
  rw [head, toNat_ofNat_word (by omega)]
  omega

/-- A frame sent passes the check (R188). -/
theorem linkCheck (h : f.fits = true) : LinkCheck f.head (f.rest ++ [crcWords (f.head :: f.rest)]) := by
  obtain ⟨hkind, hlen⟩ := head_toNat h
  refine ⟨by rw [List.getLast?_concat, List.dropLast_concat], ?_⟩
  rw [hkind, hlen]
  exact lengthFits_of_fits h _

theorem kind_eq_zero_iff (f : LinkFrame) : f.body.kind = 0 ↔ f.body = .idleFill := by
  cases f.body <;> simp [LinkBody.kind]

/-- A frame that fits its words is read back from them with all its contents (R161, R188). -/
theorem checkLinkFrame_words (h : f.fits = true) : checkLinkFrame f.words = some f.received := by
  obtain ⟨hkind, hlen⟩ := head_toNat h
  have hlen : f.head.toNat % 4096 = (f.rest ++ [crcWords (f.head :: f.rest)]).length + 2 := by
    rw [hlen, List.length_append]
    rfl
  rw [words_eq]
  by_cases hidle : f.body = .idleFill
  · rw [checkLinkFrame_idle hlen (linkCheck h) (by rw [hkind, kind_eq_zero_iff, hidle]), received, hidle]
  · have hrest : f.rest = BitVec.ofNat 16 (f.sender * 256 + f.body.senderLow) :: f.body.words := by
      rw [rest]
      split
      · exact absurd ‹_› hidle
      · rfl
    rw [checkLinkFrame_body hlen (linkCheck h) (by rwa [hkind, ne_eq, kind_eq_zero_iff])
      (by rw [List.dropLast_concat, hrest]), hkind, readBody_words h hidle]

end LinkFrame

/-! ### The check register -/

theorem crcBit_eq (r : Word) (bit : Bool) :
    crcBit r bit = if r.getLsbD 15 = bit then r <<< 1 else (r <<< 1) ^^^ 0x1021#16 := by
  rw [crcBit, BitVec.msb_eq_getLsbD_last]
  simp only [beq_iff_eq]

/-- The check over bytes is the check over their bits, most significant first (R186). -/
theorem crcBytes_eq_foldl_bits (bs : List Byte) : crcBytes bs =
    (bs.flatMap fun b => [7, 6, 5, 4, 3, 2, 1, 0].map fun k => b.getLsbD k).foldl crcBit 0xFFFF#16 := by
  rw [crcBytes, List.foldl_flatMap]
  rfl

/-! ### Words received -/

namespace State

variable {s : State} {port : LinkPort}

theorem link_setLinkRx (s : State) (port : LinkPort) (rx : List Word) : ((s.setLinkRx port rx).link port).rx = rx := by
  rw [setLinkRx, link_setLink, if_pos rfl]

theorem setLinkRx_setLinkRx (s : State) (port : LinkPort) (rx rx' : List Word) :
    (s.setLinkRx port rx).setLinkRx port rx' = s.setLinkRx port rx' := by
  cases port <;> rfl

theorem setLinkRx_self {rx : List Word} (h : (s.link port).rx = rx) : s.setLinkRx port rx = s := by
  rw [setLinkRx, ← h, setLink_link]

/-- A sync word on a line with no frame in part begins one (R161). -/
theorem receiveWord_sync (h : (s.link port).rx = []) : receiveWord port s 0x5AC3#16 = s.setLinkRx port [0x5AC3#16] := by
  rw [receiveWord, h]
  rfl

/-- A word that leaves the frame in part joins it (R161). -/
theorem receiveWord_of_part {x w : Word} {xs : List Word} (h : linkFrameWhole (x :: (xs ++ [w])) = false) :
    receiveWord port (s.setLinkRx port (x :: xs)) w = s.setLinkRx port (x :: (xs ++ [w])) := by
  rw [receiveWord, link_setLinkRx]
  dsimp only []
  rw [List.cons_append, if_neg (by rw [h]; exact Bool.false_ne_true), setLinkRx_setLinkRx]

/-- The word that makes the frame whole has it checked (R161). -/
theorem receiveWord_of_whole {x w : Word} {xs : List Word} (h : linkFrameWhole (x :: (xs ++ [w])) = true) :
    receiveWord port (s.setLinkRx port (x :: xs)) w = (s.setLinkRx port []).checkFrame port (x :: (xs ++ [w])) := by
  rw [receiveWord, link_setLinkRx]
  dsimp only []
  rw [List.cons_append, if_pos h, setLinkRx_setLinkRx]

theorem linkFrameWhole_iff {x head : Word} {mid : List Word} :
    linkFrameWhole (x :: head :: mid) = true ↔ head.toNat % 4096 ≤ mid.length + 2 := decide_eq_true_iff

/-- The words that are missing of a frame make it whole, and it is checked (R156, R161). -/
theorem foldl_receiveWord_of_part {x head : Word} (ws : List Word) : ∀ (w : Word) (mid : List Word),
    head.toNat % 4096 = mid.length + (w :: ws).length + 2 →
    (w :: ws).foldl (receiveWord port) (s.setLinkRx port (x :: head :: mid)) =
      (s.setLinkRx port []).checkFrame port (x :: head :: (mid ++ w :: ws)) := by
  induction ws with
  | nil =>
    intro w mid hlen
    have hwhole : linkFrameWhole (x :: head :: (mid ++ [w])) = true := by
      rw [linkFrameWhole_iff, hlen, List.length_append]
    exact receiveWord_of_whole (xs := head :: mid) hwhole
  | cons w' ws ih =>
    intro w mid hlen
    have hpart : linkFrameWhole (x :: head :: (mid ++ [w])) = false := by
      rw [← Bool.not_eq_true, linkFrameWhole_iff]
      simp only [List.length_cons, List.length_append, List.length_nil] at hlen ⊢
      omega
    rw [List.foldl_cons, receiveWord_of_part (xs := head :: mid) hpart]
    have hrest := ih w' (mid ++ [w]) (by simp only [List.length_cons, List.length_append, List.length_nil] at hlen ⊢; omega)
    rwa [List.append_assoc] at hrest

/-- On a line with no frame in part the words of one frame are received and checked as one (R156, R161). -/
theorem foldl_receiveWord {head : Word} {rest : List Word} (h : (s.link port).rx = [])
    (hlen : head.toNat % 4096 = rest.length + 2) :
    (0x5AC3#16 :: head :: rest).foldl (receiveWord port) s = s.checkFrame port (0x5AC3#16 :: head :: rest) := by
  rw [List.foldl_cons, List.foldl_cons, receiveWord_sync h]
  cases rest with
  | nil =>
    rw [receiveWord_of_whole (xs := []) (linkFrameWhole_iff.mpr (Nat.le_of_eq hlen)), setLinkRx_self h]
    rfl
  | cons w ws =>
    have hpart : linkFrameWhole (0x5AC3#16 :: ([] ++ [head])) = false := by
      rw [← Bool.not_eq_true, List.nil_append, linkFrameWhole_iff]
      simp only [List.length_cons, List.length_nil] at hlen ⊢
      omega
    rw [receiveWord_of_part hpart]
    have hrest := foldl_receiveWord_of_part (s := s) (port := port) (x := 0x5AC3#16) ws w [] (by simpa using hlen)
    rwa [setLinkRx_self h] at hrest

/-- Outside the sweep a frame that arrives on a line with no frame in part is checked (R156, R161). -/
theorem execLinkFrameCheck_of_frame {head : Word} {rest : List Word} (hsweep : s.sweep = none) (h : (s.link port).rx = [])
    (hlen : head.toNat % 4096 = rest.length + 2) :
    exec (.linkFrameCheck port (0x5AC3#16 :: head :: rest)) s =
      .next (s.checkFrame port (0x5AC3#16 :: head :: rest)) := by
  show execLinkFrameCheck port _ s = _
  rw [execLinkFrameCheck, if_neg (by rw [sweeping, hsweep]; exact Bool.false_ne_true), foldl_receiveWord h hlen]

theorem checkFrame_of_good {frame : List Word} {r : Received} (h : checkLinkFrame frame = some r) :
    s.checkFrame port frame = (s.heardLink port).handFrame port r := by
  rw [checkFrame, h]

theorem checkFrame_of_failed {frame : List Word} (h : checkLinkFrame frame = none) :
    s.checkFrame port frame = s.checkFail port := by
  rw [checkFrame, h]

/-- A good frame on a link that is UP starts its timer afresh (R163). -/
theorem heardLink_of_up (h : (s.link port).up = true) : s.heardLink port =
    s.setLink port { s.link port with up := true, timer := some (s.time + s.config.linkTimeout) } := if_pos h

/-- A good frame on a link that is DOWN brings it UP, with LINK raised (R163). -/
theorem heardLink_of_down (h : (s.link port).up = false) : s.heardLink port =
    (s.setLink port { s.link port with up := true, timer := some (s.time + s.config.linkTimeout) }).raise
      (.link (s.peerLane port) .up) := if_neg (by rw [h]; exact Bool.false_ne_true)

end State

/-- Settles O46: the words of a frame read back, the failing condition, the check register bit by bit, and what the receipt
of a good and of a failed frame does. -/
theorem linkFrameReceived : Obligations.LinkFrameReceived := by
  refine ⟨fun f => LinkFrame.checkLinkFrame_words, fun head rest hlen =>
    (checkLinkFrame_eq_none_iff hlen).trans ((not_congr (linkCheck_iff hlen)).trans not_and_or), fun ws => rfl, fun bs => ?_,
    fun s port f hfits hsweep hrx => ?_, fun s port => ⟨State.heardLink_of_up, State.heardLink_of_down⟩,
    fun s port head rest hsweep hrx hlen hfail => ?_⟩
  · rw [crcBytes_eq_foldl_bits]
    exact congrArg (fun step => List.foldl step _ _) (funext₂ crcBit_eq)
  · have hlen : f.head.toNat % 4096 = (f.rest ++ [crcWords (f.head :: f.rest)]).length + 2 := by
      rw [(LinkFrame.head_toNat hfits).2, List.length_append]
      rfl
    rw [LinkFrame.words_eq, State.execLinkFrameCheck_of_frame hsweep hrx hlen, ← LinkFrame.words_eq,
      State.checkFrame_of_good (LinkFrame.checkLinkFrame_words hfits)]
  · rw [State.execLinkFrameCheck_of_frame hsweep hrx hlen, State.checkFrame_of_failed hfail]
    rfl

end Sys2Proof.Machine
end

section
/-! The attention controller through its events (R166 to R172): what each leaves of the class records and of the order, and
which class is the first by rank. -/

namespace Sys2Proof.Machine
namespace Attention

variable (a : Attention)

/-! ### The class records -/

theorem cls_update_self {k : Nat} (f : ClassRecord → ClassRecord) (hk : k < 8) : (a.update k f).cls k = f (a.cls k) := by
  rw [cls_update a k f hk, if_pos rfl]

/-- A raise records its detail in its own class (R167). -/
theorem cls_raise_self (d : Detail) : (a.raise d).cls d.cls.num = (a.cls d.cls.num).raised d :=
  a.cls_update_self (fun r => r.raised d) d.cls.num_lt

theorem cls_raise_ne (d : Detail) {j : Nat} (h : j ≠ d.cls.num) : (a.raise d).cls j = a.cls j :=
  tableGet_tableSet_ne _ _ _ h.symm

/-- A TAKE moves its class from pending to in service, with its count at 0 and its detail kept (R169). -/
theorem cls_takeClass_self {k : Nat} (hk : k < 8) :
    (a.takeClass k).cls k = { a.cls k with pending := false, inService := true, count := 0 } :=
  a.cls_update_self (fun r => { r with pending := false, inService := true, count := 0 }) hk

theorem cls_takeClass_ne {k j : Nat} (h : j ≠ k) : (a.takeClass k).cls j = a.cls j :=
  tableGet_tableSet_ne _ _ _ h.symm

/-- A DONE ends the service of its class, which becomes the lowest in ROTATING (R170, R171). -/
theorem finish_eq (k : Nat) : a.finish k = judge { a.update k (fun r => { r with inService := false }) with
    lowest := if a.rotating = true then k else a.lowest } := by
  unfold finish
  dsimp only []
  split <;> rfl

theorem cls_finish_self {k : Nat} (hk : k < 8) : (a.finish k).cls k = { a.cls k with inService := false } := by
  rw [finish_eq]
  exact a.cls_update_self (fun r => { r with inService := false }) hk

theorem cls_finish_ne {k j : Nat} (h : j ≠ k) : (a.finish k).cls j = a.cls j := by
  rw [finish_eq]
  exact tableGet_tableSet_ne _ _ _ h.symm

/-- MASK sets the mask of each class from its bit (R172). -/
theorem cls_setMasks (set : Byte) {k : Nat} (hk : k < 8) :
    (a.setMasks set).cls k = { a.cls k with masked := set.getLsbD k } := by
  simp [setMasks, judge, cls, tableGet, hk]

/-! ### Ranks -/

theorem rank_lt (k : Nat) : a.rank k < 8 := Nat.mod_lt _ (by decide)

theorem rank_ofRank (hl : a.lowest ≤ 7) {r : Nat} (hr : r < 8) : a.rank (a.ofRank r) = r := by
  unfold rank ofRank
  omega

theorem ofRank_rank (hl : a.lowest ≤ 7) {k : Nat} (hk : k < 8) : a.ofRank (a.rank k) = k := by
  unfold rank ofRank
  omega

theorem ofRank_lt (r : Nat) : a.ofRank r < 8 := Nat.mod_lt _ (by decide)

/-- The order holds each class, whatever the lowest (R166). -/
theorem mem_byRank {k : Nat} : k ∈ a.byRank ↔ k < 8 := by
  simp only [byRank, List.mem_map, List.mem_range]
  constructor
  · rintro ⟨r, -, rfl⟩
    exact a.ofRank_lt r
  · intro hk
    refine ⟨(k + 7 * (a.lowest + 1)) % 8, Nat.mod_lt _ (by decide), ?_⟩
    unfold ofRank
    omega

variable {a} in
/-- The search of the order gives the class of highest rank with the property (R169, R170). -/
theorem find?_byRank_eq_some (hl : a.lowest ≤ 7) {p : Nat → Bool} {k : Nat} (hk : k < 8) (hp : p k = true)
    (hfirst : ∀ j, j < 8 → p j = true → a.rank k ≤ a.rank j) : a.byRank.find? p = some k := by
  have hrank : (List.range 8).find? (p ∘ a.ofRank) = some (a.rank k) := by
    refine List.find?_range_eq_some.mpr ⟨?_, List.mem_range.mpr (a.rank_lt k), fun r hr => ?_⟩
    · rwa [Function.comp_apply, a.ofRank_rank hl hk]
    · have hafter := hfirst (a.ofRank r) (a.ofRank_lt r)
      rw [a.rank_ofRank hl (hr.trans (a.rank_lt k))] at hafter
      rw [Function.comp_apply, Bool.not_eq_true']
      exact Bool.eq_false_iff.mpr fun hpr => absurd (hafter hpr) (Nat.not_le.mpr hr)
  rw [byRank, List.find?_map, hrank, Option.map_some, a.ofRank_rank hl hk]

variable {a} in
theorem find?_byRank_eq_none {p : Nat → Bool} (h : ∀ k, k < 8 → p k = false) : a.byRank.find? p = none :=
  List.find?_eq_none.mpr fun k hk => by simp [h k (a.mem_byRank.mp hk)]

/-- A TAKE considers a class that is pending, not masked, and of a smaller rank than every class in service (R168, R169). -/
theorem eligible_iff (k : Nat) : a.eligible k = true ↔ (a.cls k).pending = true ∧ (a.cls k).masked = false ∧
    ∀ j, j < 8 → (a.cls j).inService = true → a.rank k < a.rank j := by
  have houtranks : a.outranksService k = true ↔ ∀ j, j < 8 → (a.cls j).inService = true → a.rank k < a.rank j := by
    simp [outranksService, Decidable.imp_iff_not_or]
  rw [eligible, Bool.and_eq_true, Bool.and_eq_true, Bool.not_eq_true', houtranks, and_assoc]

/-- A class is offered exactly where a TAKE would consider one (R168). -/
theorem offered_isSome_iff : a.offered.isSome = true ↔ ∃ k, k < 8 ∧ a.eligible k = true := by
  simp only [offered, List.find?_isSome, mem_byRank]

end Attention

/-- Settles O37: a raise writes the record of its own class and judges. -/
theorem raiseRecords : Obligations.RaiseRecords :=
  fun a d => ⟨a.cls_raise_self d, fun _ => a.cls_raise_ne d, rfl, rfl, (Attention.judge_law _ :)⟩

end Sys2Proof.Machine
end

section
/-! The requests of the attention controller at their block (R169 to R172). -/

namespace Sys2Proof.Machine

/-- A request of the controller in hand, replied to after what it does there. -/
theorem State.reply_inHand_attention (s : State) (kind tag : Nat) (a : Attention) (o : ReplyOutcome) (bs : List Byte) :
    ({ s.inHand kind tag with attention := a } : State).reply o bs =
      { s with attention := a, port := s.port.answered kind tag o bs } :=
  State.inHand_reply { s with attention := a } kind tag o bs

/-! ### TAKE -/

theorem execTake_given {s : State} {tag : Nat} (h : s.given 14 tag (.take tag)) :
    exec (.take tag) s = .next (s.inHand 14 tag).takeEvent :=
  congrArg Host.Outcome.next
    (State.request_given (payload := []) State.takeEvent rfl (by decide) (by decide) rfl h)

/-- TAKE takes the class offered (R169). -/
theorem execTake_offered {s : State} {tag k : Nat} (h : s.given 14 tag (.take tag)) (hk : s.attention.offered = some k) :
    exec (.take tag) s = .next { s with
      attention := s.attention.takeClass k
      port := s.port.answered 14 tag .ok
        (takePayload k (s.attention.cls k).count (s.attention.cls k).detail) } := by
  have hk : (s.inHand 14 tag).attention.offered = some k := hk
  rw [execTake_given h, State.takeEvent, hk]
  exact congrArg Host.Outcome.next (s.reply_inHand_attention _ _ _ _ _)

/-- TAKE with no class offered answers NONE (R169; log 20). -/
theorem execTake_none {s : State} {tag : Nat} (h : s.given 14 tag (.take tag)) (hk : s.attention.offered = none) :
    exec (.take tag) s = .next (s.answered 14 tag .ok (takePayload 255 0 none)) := by
  have hk : (s.inHand 14 tag).attention.offered = none := hk
  rw [execTake_given h, State.takeEvent, hk]
  exact congrArg Host.Outcome.next (s.inHand_reply _ _ _ _)

/-! ### DONE -/

theorem execDoneClass_given {s : State} {tag k : Nat} (h : s.given 15 tag (.doneClass tag k)) :
    exec (.doneClass tag k) s = .next ((s.inHand 15 tag).doneClassEvent k) :=
  congrArg Host.Outcome.next
    (State.request_given (payload := field1 k) (State.doneClassEvent k) rfl (by decide) (by simp [field1]) rfl h)

/-- DONE of a number that is no class is refused (R170). -/
theorem execDoneClass_badArgument {s : State} {tag k : Nat} (h : s.given 15 tag (.doneClass tag k)) (hk : 7 < k) :
    exec (.doneClass tag k) s = .next (s.answered 15 tag .badArgument []) := by
  rw [execDoneClass_given h, State.doneClassEvent, if_pos hk, State.inHand_reply]

/-- DONE of a class not in service is refused (R170; log 20). -/
theorem execDoneClass_notInService {s : State} {tag k : Nat} (h : s.given 15 tag (.doneClass tag k)) (hk : k ≤ 7)
    (hidle : (s.attention.cls k).inService = false) :
    exec (.doneClass tag k) s = .next (s.answered 15 tag .notInService (field1 k)) := by
  have hidle : ¬ ((s.inHand 15 tag).attention.cls k).inService = true := by simpa [State.inHand] using hidle
  rw [execDoneClass_given h, State.doneClassEvent, if_neg (Nat.not_lt.mpr hk), if_neg hidle, State.inHand_reply]

/-- DONE of a class in service finishes it (R170). -/
theorem execDoneClass_inService {s : State} {tag k : Nat} (h : s.given 15 tag (.doneClass tag k)) (hk : k ≤ 7)
    (hserved : (s.attention.cls k).inService = true) :
    exec (.doneClass tag k) s = .next
      { s with attention := s.attention.finish k, port := s.port.answered 15 tag .ok (field1 k) } := by
  have hserved : ((s.inHand 15 tag).attention.cls k).inService = true := hserved
  rw [execDoneClass_given h, State.doneClassEvent, if_neg (Nat.not_lt.mpr hk), if_pos hserved]
  exact congrArg Host.Outcome.next (s.reply_inHand_attention _ _ _ _ _)

theorem execDoneNoClass_given {s : State} {tag : Nat} (h : s.given 15 tag (.doneNoClass tag)) :
    exec (.doneNoClass tag) s = .next (s.inHand 15 tag).doneNoClassEvent :=
  congrArg Host.Outcome.next
    (State.request_given (payload := field1 255) State.doneNoClassEvent rfl (by decide) (by decide) rfl h)

/-- DONE with no class and none in service is refused (R170). -/
theorem execDoneNoClass_notInService {s : State} {tag : Nat} (h : s.given 15 tag (.doneNoClass tag))
    (hidle : s.attention.highestInService = none) :
    exec (.doneNoClass tag) s = .next (s.answered 15 tag .notInService (field1 255)) := by
  have hidle : (s.inHand 15 tag).attention.highestInService = none := hidle
  rw [execDoneNoClass_given h, State.doneNoClassEvent, hidle]
  exact congrArg Host.Outcome.next (s.inHand_reply _ _ _ _)

/-- DONE with no class finishes the class of highest rank in service (R170). -/
theorem execDoneNoClass_inService {s : State} {tag k : Nat} (h : s.given 15 tag (.doneNoClass tag))
    (hk : s.attention.highestInService = some k) :
    exec (.doneNoClass tag) s = .next
      { s with attention := s.attention.finish k, port := s.port.answered 15 tag .ok (field1 k) } := by
  have hk : (s.inHand 15 tag).attention.highestInService = some k := hk
  rw [execDoneNoClass_given h, State.doneNoClassEvent, hk]
  exact congrArg Host.Outcome.next (s.reply_inHand_attention _ _ _ _ _)

/-- Settles O38: the rank as the formula, the class that the order gives first, and what TAKE and DONE do with it. -/
theorem takeAndDone : Obligations.TakeAndDone := by
  refine ⟨fun a k hl _ => ?rank, Attention.eligible_iff, fun s tag h hl => ⟨fun k hk helig hfirst => ?take, fun hnone => ?none⟩,
    fun s tag k h => ⟨execDoneClass_badArgument h, execDoneClass_notInService h, execDoneClass_inService h⟩,
    fun s tag h hl => ⟨fun hidle => ?idle, fun k hk hserved hfirst => ?done⟩, fun a k hk => ?finish⟩
  case rank =>
    unfold Attention.rank
    omega
  case take =>
    exact ⟨_, execTake_offered h (Attention.find?_byRank_eq_some hl hk helig hfirst), s.attention.cls_takeClass_self hk,
      fun _ => s.attention.cls_takeClass_ne, rfl, rfl, (Attention.judge_law _ :)⟩
  case none => exact execTake_none h (Attention.find?_byRank_eq_none hnone)
  case idle => exact execDoneNoClass_notInService h (Attention.find?_byRank_eq_none hidle)
  case done => exact execDoneNoClass_inService h (Attention.find?_byRank_eq_some hl hk hserved hfirst)
  case finish =>
    refine ⟨a.cls_finish_self (Nat.lt_succ_of_le hk), fun _ => a.cls_finish_ne, ?_⟩
    rw [Attention.finish_eq]
    exact ⟨rfl, rfl, Attention.judge_law _⟩

/-! ### MASK and PRIORITY -/

/-- MASK replaces the masks and answers with them (R172). -/
theorem execMask_given {s : State} {tag : Nat} {set : Byte} (h : s.given 16 tag (.mask tag set)) :
    exec (.mask tag set) s = .next
      { s with attention := s.attention.setMasks set, port := s.port.answered 16 tag .ok [set] } :=
  congrArg Host.Outcome.next
    ((State.request_given (payload := [set]) (State.maskEvent set) rfl (by decide) (by simp) rfl h).trans
      (s.reply_inHand_attention _ _ _ _ _))

/-- PRIORITY at its block sets the order and answers with it (R171, R187). -/
theorem State.priorityEvent_inHand (s : State) (tag : Nat) (rotating : Bool) (lowest : Nat) :
    (s.inHand 17 tag).priorityEvent rotating lowest = { s with
      attention := s.attention.setOrder rotating lowest
      port := s.port.answered 17 tag .ok (field1 (if rotating then 2 else 1) ++ field1 lowest) } :=
  s.reply_inHand_attention _ _ _ _ _

theorem execPriorityFixed_given {s : State} {tag : Nat} (h : s.given 17 tag (.priorityFixed tag)) :
    exec (.priorityFixed tag) s = .next ((s.inHand 17 tag).priorityEvent false 7) :=
  congrArg Host.Outcome.next
    (State.request_given (payload := field1 1 ++ field1 0) (State.priorityEvent false 7) rfl (by decide) (by decide) rfl h)

theorem execPriorityRotating_given {s : State} {tag : Nat} (h : s.given 17 tag (.priorityRotating tag)) :
    exec (.priorityRotating tag) s = .next ((s.inHand 17 tag).priorityEvent true s.attention.lowest) :=
  congrArg Host.Outcome.next
    (State.request_given (payload := field1 2 ++ field1 0) (fun s => s.priorityEvent true s.attention.lowest) rfl
      (by decide) (by decide) rfl h)

theorem execPrioritySetLowest_given {s : State} {tag k : Nat} (h : s.given 17 tag (.prioritySetLowest tag k)) :
    exec (.prioritySetLowest tag k) s = .next ((s.inHand 17 tag).setLowestEvent k) :=
  congrArg Host.Outcome.next
    (State.request_given (payload := field1 3 ++ field1 k) (State.setLowestEvent k) rfl (by decide) (by simp [field1]) rfl h)

/-- Settles O39: MASK by its class records, PRIORITY form by form. -/
theorem maskAndPriority : Obligations.MaskAndPriority := by
  refine ⟨fun s tag set h => ⟨_, execMask_given h, fun _ => s.attention.cls_setMasks set, rfl, rfl,
    Attention.judge_law _⟩, fun s tag c rotating lowest h => ⟨fun hform => ?_, ?_⟩⟩
  · refine ⟨s.attention.setOrder rotating lowest, ?_, rfl, rfl, rfl, Attention.judge_law _⟩
    rw [← s.priorityEvent_inHand]
    obtain ⟨rfl, rfl, rfl⟩ | ⟨rfl, rfl, rfl⟩ | ⟨rfl, rfl, hlow⟩ := hform
    · exact execPriorityFixed_given h
    · exact execPriorityRotating_given h
    · rw [execPrioritySetLowest_given h, State.setLowestEvent, if_neg (Nat.not_lt.mpr hlow)]
  · rintro rfl hhigh
    rw [execPrioritySetLowest_given h, State.setLowestEvent, if_pos hhigh, State.inHand_reply]

end Sys2Proof.Machine
end

section
/-! The operations of the part that leave the attention controller as it is. -/

namespace Sys2Proof.Machine
namespace State

variable (s : State)

theorem putControl_attention (port : LinkPort) (b : LinkBody) : (s.putControl port b).attention = s.attention :=
  s.setLink_attention _ _
theorem putBulk_attention (port : LinkPort) (b : LinkBody) : (s.putBulk port b).attention = s.attention :=
  s.setLink_attention _ _

/-- A fold of an operation that leaves the controller leaves it. -/
theorem foldl_attention {α β : Type} (π : β → State) {f : β → α → β}
    (hf : ∀ x a, (π (f x a)).attention = (π x).attention) (l : List α) :
    ∀ x, (π (l.foldl f x)).attention = (π x).attention := by
  induction l with
  | nil => exact fun _ => rfl
  | cons a l ih => exact fun x => (ih _).trans (hf x a)

/-! ### The store and the patrol's walk -/

theorem poisonWord_attention (page offset : Nat) (src : StoreSource) :
    (s.poisonWord page offset src).attention = s.attention := by rw [poisonWord_eq]
theorem reportCorrection_attention (frame count : Nat) : (s.reportCorrection frame count).attention = s.attention := by
  rw [reportCorrection_eq]
theorem writeWord_attention (page offset : Nat) (v : Word) : (s.writeWord page offset v).attention = s.attention := by
  rw [writeWord_eq]
theorem writeRun_attention (page offset : Nat) (ws : List Word) : (s.writeRun page offset ws).attention = s.attention := by
  rw [writeRun_eq]
theorem selectPass_attention : s.selectPass.attention = s.attention := by rw [selectPass_eq]
theorem endPassOn_attention (id : Nat) : (s.endPassOn id).attention = s.attention := by rw [endPassOn_eq]
theorem restartPassOn_attention (id : Nat) : (s.restartPassOn id).attention = s.attention := by rw [restartPassOn_eq]

theorem selectIfWaiting_attention : s.selectIfWaiting.attention = s.attention := by
  unfold selectIfWaiting
  split
  · exact s.selectPass_attention
  · rfl

theorem sweepOn_attention : s.sweepOn.attention = s.attention := by
  unfold sweepOn
  split <;> rfl

theorem sweepEnded_attention : s.sweepEnded.attention = s.attention := by
  unfold sweepEnded
  split <;> rfl

theorem fillPage_attention (page : Nat) (value : Word) : (s.fillPage page value).attention = s.attention := by
  have hwritten := s.writeRun_attention page 0 (List.replicate 256 value)
  unfold fillPage
  generalize s.writeRun page 0 (List.replicate 256 value) = s1 at hwritten ⊢
  dsimp only []
  split
  · exact (restartPassOn_attention _ _).trans hwritten
  · exact hwritten

theorem adoptWord_attention (page offset : Nat) (x : State × AdoptCount) :
    (adoptWord page x offset).1.attention = x.1.attention := by
  unfold adoptWord
  dsimp only []
  repeat' split
  all_goals rfl

theorem adoptRegion_attention (id : Nat) (r : Region) : (s.adoptRegion id r).1.attention = s.attention :=
  (restartPassOn_attention _ _).trans (foldl_attention Prod.fst
    (fun x p => foldl_attention Prod.fst (fun x o => adoptWord_attention p o x) _ x) r.pages (s, ⟨0, 0⟩))

/-! ### OPEN, CONFIG-LANE and the completion of a join -/

theorem mapAll_attention (kind : OpenKind) : (s.mapAll kind).attention = s.attention := by
  refine foldl_attention (fun t => t) (fun t id => ?_) _ s
  unfold mapRegion
  split
  · refine foldl_attention (fun t => t) (fun t page => ?_) _ t
    unfold mapPage
    split <;> rfl
  · rfl

theorem markPages_attention (f : PageEntry → PageEntry) (pages : List Nat) :
    (pages.foldl (fun s p => s.setPage p (f (s.page p))) s).attention = s.attention :=
  foldl_attention (fun t => t) (f := fun s p => s.setPage p (f (s.page p))) (fun _ _ => rfl) pages s

theorem settleRegion_attention (id : Nat) (r : Region) (st : RegionState) :
    (s.settleRegion id r st).attention = s.attention := by
  have hended : ((s.setRegion id (some { r with state := st })).endPassOn id).attention = s.attention :=
    endPassOn_attention _ _
  unfold settleRegion
  dsimp only []
  split
  · exact (selectIfWaiting_attention _).trans hended
  · exact hended

theorem openRegion_attention (kind : OpenKind) (before : Nat → Bool) (id : Nat) :
    (openRegion kind before s id).attention = s.attention := by
  unfold openRegion
  split
  · rfl
  · split
    · exact (settleRegion_attention _ _ _ _).trans (s.markPages_attention (PageEntry.opened kind) _)
    · split
      · rfl
      · exact s.settleRegion_attention _ _ _

theorem openSettings_attention (kind : OpenKind) (before : Nat → Bool) :
    (s.openSettings kind before).attention = s.attention := by
  have hset := foldl_attention (fun t => t) (fun t id => t.openRegion_attention kind before id) (List.range 16) s
  unfold openSettings
  generalize (List.range 16).foldl (openRegion kind before) s = s1 at hset ⊢
  exact hset

theorem configure_attention (c : LaneConfig) : (s.configure c).attention = s.attention := by
  rw [configure_eq]
  rfl

/-! ### The vote unit and the transfer engine -/

theorem confirm_attention : s.confirm.attention = s.attention := by
  unfold confirm
  split <;> rfl

theorem closeCompleted_attention (n : Nat) : (s.closeCompleted n).attention = s.attention := by rw [closeCompleted_eq]

theorem startAttempt_attention (j : Join) (port : LinkPort) : (s.startAttempt j port).attention = s.attention :=
  putControl_attention _ _ _

theorem peerHeard_attention (port : LinkPort) : (s.peerHeard port).attention = s.attention := by
  unfold peerHeard
  split
  · rfl
  · dsimp only []
    split
    · exact s.startAttempt_attention _ _
    · rfl
    · rfl

end State
end Sys2Proof.Machine
end

section
/-! The operations of the part keep ATTN high exactly where a TAKE would return a class (R168): each leaves the controller, or
ends in an event of the controller, which judges ATTN. -/

namespace Sys2Proof.Machine

theorem Attention.cleared_law : Attention.cleared.attn = Attention.cleared.offered.isSome := by decide

theorem Attention.finish_law (a : Attention) (k : Nat) : (a.finish k).attn = (a.finish k).offered.isSome := by
  rw [Attention.finish_eq]
  exact Attention.judge_law _

namespace State

/-- A change that leaves the controller keeps its law. -/
theorem AttnLaw.of_attention {s t : State} (h : s.AttnLaw) (e : t.attention = s.attention) : t.AttnLaw := by
  unfold State.AttnLaw
  rw [e]
  exact h

/-! ### Operations that end in an event of the controller -/

section Judged

variable (s : State)

theorem attnLaw_raise (d : Detail) : (s.raise d).AttnLaw := Attention.judge_law _

theorem attnLaw_badFrame : s.badFrame.AttnLaw := by
  unfold badFrame
  split <;> exact s.attnLaw_raise _

theorem attnLaw_checkFail (port : LinkPort) : (s.checkFail port).AttnLaw := attnLaw_raise _ _

theorem attnLaw_enterStopped (c : StopCause) (id : Nat) : (s.enterStopped c id).AttnLaw := by
  unfold enterStopped
  dsimp only []
  split <;> exact attnLaw_raise _ _

theorem attnLaw_judgeAsk (port : LinkPort) : (s.judgeAsk port).AttnLaw := by
  unfold judgeAsk
  repeat' split
  all_goals exact attnLaw_raise _ _

theorem attnLaw_joinAsked (port : LinkPort) (sender : Nat) : (s.joinAsked port sender).AttnLaw := by
  unfold joinAsked
  split
  · exact s.attnLaw_checkFail _
  · split <;> exact attnLaw_judgeAsk _ _

theorem attnLaw_completeJoin (n : Nat) : (s.completeJoin n).AttnLaw := attnLaw_raise _ _

/-- A warm restart clears the controller (R128, R173). -/
theorem attnLaw_warmRestart : s.warmRestart.AttnLaw := by
  unfold warmRestart AttnLaw
  rw [selectPass_attention]
  exact Attention.cleared_law

/-- A reply after an event of the controller. -/
theorem attnLaw_replyJudged {a : Attention} (ha : a.attn = a.offered.isSome) (o : ReplyOutcome) (bs : List Byte) :
    (({ s with attention := a } : State).reply o bs).AttnLaw :=
  AttnLaw.of_attention (s := { s with attention := a }) ha (reply_attention _ _ _)

end Judged

/-- A fold of an operation that keeps the law keeps it. -/
theorem AttnLaw.foldl {α : Type} {f : State → α → State} (hf : ∀ (t : State) (a : α), t.AttnLaw → (f t a).AttnLaw)
    (l : List α) : ∀ {s : State}, s.AttnLaw → (l.foldl f s).AttnLaw := by
  induction l with
  | nil => exact id
  | cons a l ih => exact fun h => ih (hf _ a h)

namespace AttnLaw

variable {s : State} (h : s.AttnLaw)
include h

/-! ### The port, the links and the lane -/

theorem reply (o : ReplyOutcome) (bs : List Byte) : (s.reply o bs).AttnLaw := h.of_attention (s.reply_attention o bs)
theorem setLink (port : LinkPort) (l : Link) : (s.setLink port l).AttnLaw := h.of_attention (s.setLink_attention port l)
theorem setPeer (port : LinkPort) (p : PeerRecord) : (s.setPeer port p).AttnLaw :=
  h.of_attention (s.setPeer_attention port p)
theorem putControl (port : LinkPort) (b : LinkBody) : (s.putControl port b).AttnLaw :=
  h.of_attention (s.putControl_attention port b)

theorem judge (kind tag : Nat) (ok : Bool) (c : Option Instr) : (s.judge kind tag ok c).AttnLaw := by
  unfold State.judge
  split
  · exact attnLaw_raise _ _
  · unfold judgeIdle
    split
    · exact h
    · split
      · exact h
      · split
        · exact h
        · split
          · exact h
          · have hserved : (s.serve1 kind tag none).AttnLaw := h
            unfold refuseCode
            split <;> exact hserved.reply _ _

theorem arrive (c : Instr) : (s.arrive c).AttnLaw := by
  unfold State.arrive
  split
  · exact h
  · split
    · exact s.attnLaw_badFrame
    · exact h.judge _ _ _ _

/-- A request row keeps the law if the event of its block does (log 3). -/
theorem request (c : Instr) {own : State → State} (hown : ∀ t : State, t.AttnLaw → (own t).AttnLaw) :
    (s.request c own).AttnLaw := by
  unfold State.request
  split
  · exact hown _ h
  · dsimp only []
    split
    · exact hown _ (h.arrive c)
    · exact h.arrive c

theorem receiveByte (b : Byte) : (s.receiveByte b).AttnLaw := by
  unfold State.receiveByte
  split
  · split <;> exact h
  · dsimp only []
    split
    · exact (s.setHostRx []).attnLaw_badFrame
    · split
      · have hemptied : (s.setHostRx []).AttnLaw := h
        unfold checkHostFrame
        dsimp only []
        split
        · exact hemptied.judge _ _ _ _
        · exact attnLaw_badFrame _
      · exact h

theorem endServe (r : RestoreReason) (a : Option RestoreReason) : (s.endServe r a).AttnLaw := by
  cases hv : s.serve with
  | none => rwa [endServe_of_idle hv]
  | some v =>
    rw [endServe_of_serve hv]
    exact attnLaw_raise _ _

theorem stopRequest (c : StopCause) (id : Nat) : (s.stopRequest c id).AttnLaw := by
  by_cases hstops : s.stops c
  · rw [stopRequest_of_stops hstops]
    exact s.attnLaw_enterStopped c id
  · rwa [stopRequest_of_not_stops hstops]

theorem heardLink (port : LinkPort) : (s.heardLink port).AttnLaw := by
  unfold State.heardLink
  dsimp only []
  split
  · exact h.setLink _ _
  · exact attnLaw_raise _ _

/-! ### Correcting reads and the patrol -/

theorem uncorrectable (page offset : Nat) (src : StoreSource) : (s.uncorrectable page offset src).AttnLaw := by
  unfold State.uncorrectable
  split
  · exact h
  · dsimp only []
    split
    · exact (s.attnLaw_raise _).stopRequest _ _
    · exact (s.attnLaw_raise _).of_attention (poisonWord_attention _ _ _ _)

theorem readCell (frame page offset : Nat) (src : StoreSource) : (s.readCell frame page offset src).1.AttnLaw := by
  unfold State.readCell
  dsimp only []
  split
  · exact h
  · exact h.of_attention (reportCorrection_attention _ _ _)
  · exact h.uncorrectable _ _ _

theorem readWord (page offset : Nat) (src : StoreSource) : (s.readWord page offset src).1.AttnLaw := by
  unfold State.readWord
  split
  · exact h.readCell _ _ _ _
  · exact h

theorem of_readWord {t : State} {page offset : Nat} {src : StoreSource} {x : Option Word}
    (hread : s.readWord page offset src = (t, x)) : t.AttnLaw := by
  have hafter := h.readWord page offset src
  rwa [hread] at hafter

omit h in
theorem of_readRun {page : Nat} {src : StoreSource} {n : Nat} : ∀ {s t : State} {offset : Nat} {x : Option (List Word)},
    s.AttnLaw → s.readRun page src offset n = (t, x) → t.AttnLaw := by
  induction n with
  | zero =>
    intro s t offset x h hread
    cases hread
    exact h
  | succ n ih =>
    intro s t offset x h hread
    simp only [readRun] at hread
    split at hread
    · cases hread
      exact h.of_readWord ‹_›
    · rename_i s1 w hword
      split at hread <;> cases hread <;> exact ih (h.of_readWord hword) ‹_›

theorem judgePass (p : Pass) (r : Region) : (s.judgePass p r).AttnLaw := by
  unfold State.judgePass
  split
  · exact h
  · split
    · exact (s.attnLaw_raise _).stopRequest _ _
    · exact s.attnLaw_raise _

theorem patrolStep : s.patrolStep.AttnLaw := by
  unfold State.patrolStep
  split
  · exact h
  · rename_i p _
    split
    · exact h
    · rename_i r _
      split
      · exact h
      · have hread := h.readWord (r.first + p.cursor / 256) (p.cursor % 256) .patrol
        generalize s.readWord (r.first + p.cursor / 256) (p.cursor % 256) .patrol = x at hread ⊢
        obtain ⟨s1, value⟩ := x
        have hstepped : AttnLaw { s1 with patrol := { s1.patrol with pass := some (p.step r.seed value) } } := hread
        dsimp only []
        split
        · exact hstepped
        · exact (hstepped.judgePass _ _).of_attention (selectPass_attention _)

/-! ### The map unit -/

theorem freeFrame (frame page : Nat) : (s.freeFrame frame page).AttnLaw := by
  unfold State.freeFrame
  dsimp only []
  split
  · exact attnLaw_raise _ _
  · exact h

theorem abandonMove (page : Nat) : (s.abandonMove page).AttnLaw := by
  unfold State.abandonMove
  split
  · exact h.freeFrame _ _
  all_goals exact h

theorem unmapSettled (page : Nat) : (s.unmapSettled page).AttnLaw := by
  unfold State.unmapSettled
  split
  · rename_i f _
    have hfreed := h.freeFrame f page
    generalize s.freeFrame f page = s1 at hfreed ⊢
    exact hfreed
  · exact h

theorem unmapPage (page : Nat) : (s.unmapPage page).AttnLaw := by
  unfold State.unmapPage
  split
  · exact (attnLaw_raise _ _).unmapSettled _
  all_goals exact h.unmapSettled _

theorem clearRegion (id : Nat) : (s.clearRegion id).AttnLaw := by
  unfold State.clearRegion
  split
  · rename_i r _
    have hpages : (r.pages.foldl State.unmapPage s).AttnLaw := foldl (fun _ page ht => ht.unmapPage page) r.pages h
    exact hpages.of_attention (endPassOn_attention _ _)
  · exact h

theorem takeMove (frame : Nat) (rest : List Nat) : (s.takeMove frame rest).AttnLaw := by
  unfold State.takeMove
  dsimp only []
  split
  · exact h
  · split
    · split
      · exact attnLaw_raise _ _
      · exact h
    · exact h

theorem stepMove (page : Nat) : (s.stepMove page).AttnLaw := by
  unfold State.stepMove
  split
  next f g cursor _ _ _ =>
    have hread := h.readCell f page cursor .move
    generalize s.readCell f page cursor .move = x at hread ⊢
    obtain ⟨s1, _⟩ := x
    dsimp only [] at hread ⊢
    split
    · split
      · exact hread
      · exact Attention.judge_law _
    all_goals exact hread
  all_goals exact h

/-! ### The donor -/

theorem capture (page : Nat) : (s.capture page).AttnLaw := by
  unfold State.capture
  split
  · exact h
  · split
    · split <;> rename_i hread <;> exact (h.of_readRun hread).of_attention rfl
    · exact h

theorem verdictHanded (agreed : Bool) (n : Nat) : (s.verdictHanded agreed n).AttnLaw := by
  unfold State.verdictHanded
  split
  · exact h
  · rename_i v _
    have hjudged : AttnLaw { s with serve := some (v.judged agreed n) } := h
    dsimp only []
    split
    · exact hjudged.endServe _ _
    · exact hjudged

theorem sendStep : s.sendStep.AttnLaw := by
  unfold State.sendStep
  split
  · exact h
  · split
    · rename_i v1 _ _ _ _ _
      have hchosen : AttnLaw { s with serve := some v1 } := h
      split <;> rename_i hread
      · exact (hchosen.of_readRun hread).of_attention (putBulk_attention _ _ _)
      · exact hchosen.of_readRun hread
    · exact h

theorem finalSendStep : s.finalSendStep.AttnLaw := by
  unfold State.finalSendStep
  split
  · exact h
  · split
    · rename_i v1 _ _ _ _
      have hchosen : AttnLaw { s with serve := some v1 } := h
      dsimp only []
      split <;> rename_i hread <;> split at hread
      · cases hread
        exact hchosen.of_attention (putBulk_attention _ _ _)
      · exact (hchosen.of_readRun hread).of_attention (putBulk_attention _ _ _)
      · cases hread
      · exact hchosen.of_readRun hread
    · exact h

theorem resumeSend (port : LinkPort) : (s.resumeSend port).AttnLaw := by
  unfold State.resumeSend
  split
  · exact h
  · split
    · split
      · exact h.sendStep
      · exact h.finalSendStep
    · exact h

theorem transmitEnded (port : LinkPort) : (s.transmitEnded port).AttnLaw := by
  unfold State.transmitEnded
  dsimp only []
  split
  · exact (h.setLink _ _).resumeSend _
  · exact h.setLink _ _

theorem queueLockImage : s.queueLockImage.AttnLaw := by
  unfold State.queueLockImage
  split
  · exact h
  · split
    · exact h.of_attention (putBulk_attention _ _ _)
    · exact h

theorem queueSyncMark : s.queueSyncMark.AttnLaw := by
  unfold State.queueSyncMark
  split
  · exact h
  · split
    · exact attnLaw_raise _ _
    · exact h

/-! ### Votes and closes -/

theorem countMiss (port : LinkPort) : (s.countMiss port).AttnLaw := by
  unfold State.countMiss
  dsimp only []
  split
  · split
    · exact attnLaw_raise _ _
    · exact h.setPeer _ _
  · exact h

theorem applyVerdict (v : VerdictRecord) : (s.applyVerdict v).AttnLaw := by
  unfold State.applyVerdict
  split
  · have hconfirmed : (confirm { s.startDeadline with
        health := { s.startDeadline.health with degraded := v.participants == 2 } }).AttnLaw :=
      h.of_attention (confirm_attention _)
    exact hconfirmed.verdictHanded _ _
  · exact (attnLaw_raise _ _).verdictHanded _ _
  all_goals exact h.stopRequest _ _

theorem decideVote : s.decideVote.AttnLaw := by
  have hcounted := (h.countMiss .u).countMiss .v
  unfold State.decideVote
  generalize (s.countMiss .u).countMiss .v = s1 at hcounted ⊢
  dsimp only []
  refine applyVerdict (s := dropHeld _) ?_ _
  exact hcounted

theorem decideIfEarly : s.decideIfEarly.AttnLaw := by
  unfold State.decideIfEarly
  split
  · exact h.decideVote
  · exact h

theorem completeClose (n : Nat) : (s.completeClose n).AttnLaw := by
  unfold State.completeClose
  extract_lets list vote s1 s2 s3 vote3 s4
  have h2 : s2.AttnLaw := (putControl (s := s1) h .u _).putControl .v _
  have h3 : s3.AttnLaw := h2.of_attention (closeCompleted_attention _ _)
  exact decideIfEarly (s := s4) h3

theorem acceptClose (cycle : Nat) : (s.acceptClose cycle).AttnLaw := by
  unfold State.acceptClose
  extract_lets s1
  have hdecided : s1.AttnLaw := by
    dsimp only [s1]
    split
    · exact h.decideVote
    · exact h
  split
  · exact hdecided
  · exact hdecided.reply _ _

theorem closeEvent (cycle : Nat) : (s.closeEvent cycle).AttnLaw := by
  unfold State.closeEvent
  split
  · exact h.reply _ _
  · split
    · exact h.reply _ _
    · split
      · exact h.reply _ _
      · exact h.acceptClose _

theorem readGate (a : Advance) (gate : Nat) (rest : List Nat) : (s.readGate a gate rest).AttnLaw := by
  unfold State.readGate
  split
  · rename_i hread
    exact (h.of_readWord hread).of_attention rfl
  · rename_i s1 hread
    have hended : AttnLaw { s1 with advance := none } := (h.of_readWord hread).of_attention rfl
    unfold abandonClose
    split
    · exact attnLaw_warmRestart _
    · exact hended.reply _ _

theorem stepLock (values : List (Nat × Word)) (k : Nat) : (stepLock values s k).AttnLaw := by
  unfold State.stepLock
  dsimp only []
  split
  · exact attnLaw_raise _ _
  · exact h

theorem stepLocks (values : List (Nat × Word)) : (s.stepLocks values).AttnLaw := by
  unfold State.stepLocks
  exact foldl (fun _ k ht => ht.stepLock values k) _ h

theorem endAdvance (a : Advance) : (s.endAdvance a).AttnLaw := by
  have hstepped := h.stepLocks a.values
  unfold State.endAdvance
  generalize s.stepLocks a.values = s1 at hstepped ⊢
  have hended : AttnLaw { s1 with advance := none } := hstepped
  dsimp only []
  split
  · exact attnLaw_warmRestart _
  · split
    · exact (hended.completeClose _).reply _ _
    · exact hended.reply _ _

/-! ### The receiver and the frames of the links -/

theorem failAttempt (r : RestoreReason) (a : Option RestoreReason) : (s.failAttempt r a).AttnLaw := by
  unfold State.failAttempt
  split
  · exact h
  · split
    · exact h
    · extract_lets s1 heard j1 s2
      have hfailed : s2.AttnLaw := attnLaw_raise _ _
      split
      · exact hfailed.stopRequest _ _
      · split
        · exact hfailed.of_attention (startAttempt_attention _ _ _)
        · exact hfailed

theorem digestTaken (port : LinkPort) (m : Nat) (c : Bool) (l : DigestList) : (s.digestTaken port m c l).AttnLaw := by
  unfold State.digestTaken
  dsimp only []
  split
  · split
    · exact (h.setPeer _ _).decideIfEarly
    · split
      · split
        · exact h.setPeer _ _
        · exact attnLaw_raise _ _
      · exact attnLaw_raise _ _
  · split
    · exact (h.setPeer _ _).of_attention (peerHeard_attention _ _)
    · exact h.setPeer _ _

theorem digestReceived (port : LinkPort) (sender m : Nat) (c : Option Bool) (l : Option DigestList) :
    (s.digestReceived port sender m c l).AttnLaw := by
  unfold State.digestReceived
  split
  · split
    · exact h.digestTaken _ _ _ _
    · exact s.attnLaw_checkFail _
  · exact s.attnLaw_checkFail _

theorem restartSilence (j : Join) : (s.restartSilence j).AttnLaw := h

theorem offerReceived (port : LinkPort) (pages : Nat) : (s.offerReceived port pages).AttnLaw := by
  unfold State.offerReceived
  split
  · exact h.putControl _ _
  · split
    · split
      · exact h.restartSilence _
      · exact (h.restartSilence _).failAttempt _ _
    · exact h.putControl _ _

theorem declineReceived (port : LinkPort) (reason : Option RestoreReason) : (s.declineReceived port reason).AttnLaw := by
  unfold State.declineReceived
  split
  · split
    · exact h
    · exact s.attnLaw_checkFail _
  · extract_lets s1
    have hsilence : s1.AttnLaw := by
      dsimp only [s1]
      split
      · exact h.restartSilence _
      · exact h
    split
    · split
      · exact hsilence.failAttempt _ _
      · exact hsilence
    · exact attnLaw_checkFail _ _

theorem abortReceived (port : LinkPort) (reason : Option RestoreReason) : (s.abortReceived port reason).AttnLaw := by
  unfold State.abortReceived
  extract_lets ours s1
  have hsilence : s1.AttnLaw := by
    dsimp only [s1]
    split
    · split
      · exact h.restartSilence _
      · exact h
    · exact h
  split
  · exact attnLaw_checkFail _ _
  · split
    · exact hsilence.endServe _ _
    · split
      · exact hsilence.failAttempt _ _
      · split
        · exact hsilence.setPeer _ _
        · exact hsilence

theorem pageReceived (port : LinkPort) (page offset : Nat) (words : List Word) :
    (s.pageReceived port page offset words).AttnLaw := by
  have hstale : (if offset = 0 then s.putControl port (.joinAbort .stale) else s).AttnLaw := by
    split
    · exact h.putControl _ _
    · exact h
  unfold State.pageReceived
  split
  · rename_i j _
    split
    · have hsilence := h.restartSilence j
      dsimp only []
      split
      · exact hsilence.of_attention (writeRun_attention _ page offset words)
      · exact hsilence.failAttempt _ _
    · exact hstale
  · exact hstale

theorem imageReceived (port : LinkPort) (timers : Option (List LockTimer)) : (s.imageReceived port timers).AttnLaw := by
  unfold State.imageReceived
  extract_lets s1
  have hsilence : s1.AttnLaw := by
    dsimp only [s1]
    split
    · split
      · exact h.restartSilence _
      · exact h
    · exact h
  split
  · exact attnLaw_checkFail _ _
  · split
    · split
      · split
        · exact hsilence
        · exact hsilence.failAttempt _ _
      · exact hsilence.putControl _ _
    · exact hsilence.putControl _ _

theorem syncReceived (port : LinkPort) (n : Nat) (list : Option DigestList) : (s.syncReceived port n list).AttnLaw := by
  unfold State.syncReceived
  split
  · split
    · split
      · exact s.attnLaw_completeJoin _
      · exact (h.restartSilence _).failAttempt _ _
    · exact h.putControl _ _
  · exact h.putControl _ _

theorem handFrame (port : LinkPort) (f : Received) : (s.handFrame port f).AttnLaw := by
  cases f with
  | idleFill => exact h
  | digest sender cycle confirmed list => exact h.digestReceived _ _ _ _ _
  | joinAsk sender => exact s.attnLaw_joinAsked _ _
  | joinOffer pages => exact h.offerReceived _ _
  | joinDecline reason => exact h.declineReceived _ _
  | joinAbort reason => exact h.abortReceived _ _
  | page page offset words => exact h.pageReceived _ _ _ _
  | lockImage timers => exact h.imageReceived _ _
  | syncMark cycle list => exact h.syncReceived _ _ _

theorem receiveWord (port : LinkPort) (w : Word) : (receiveWord port s w).AttnLaw := by
  unfold State.receiveWord
  split
  · split
    · exact h.setLink _ _
    · exact h
  · dsimp only []
    split
    · unfold checkFrame
      split
      · exact ((h.setLink _ _).heardLink _).handFrame _ _
      · exact attnLaw_checkFail _ _
    · exact h.setLink _ _

end AttnLaw

theorem attnLaw_linkDown (s : State) (port : LinkPort) : (s.linkDown port).AttnLaw := by
  have hdown : (s.markedDown port).AttnLaw := attnLaw_raise _ _
  rw [linkDown_eq]
  split
  · exact hdown.endServe _ _
  · exact hdown

end State
end Sys2Proof.Machine
end

section
/-! Every command keeps ATTN high exactly where a TAKE would return a class, and so every step does (R168). -/

namespace Sys2Proof.Machine
namespace State
namespace AttnLaw

variable {s : State} (h : s.AttnLaw)
include h

/-! ### The requests of the controller -/

theorem takeEvent : s.takeEvent.AttnLaw := by
  unfold State.takeEvent
  split
  · exact s.attnLaw_replyJudged (Attention.judge_law _) _ _
  · exact h.reply _ _

theorem doneClassEvent (cls : Nat) : (s.doneClassEvent cls).AttnLaw := by
  unfold State.doneClassEvent
  split
  · exact h.reply _ _
  · split
    · exact s.attnLaw_replyJudged (Attention.finish_law _ _) _ _
    · exact h.reply _ _

theorem doneNoClassEvent : s.doneNoClassEvent.AttnLaw := by
  unfold State.doneNoClassEvent
  split
  · exact s.attnLaw_replyJudged (Attention.finish_law _ _) _ _
  · exact h.reply _ _

theorem setLowestEvent (cls : Nat) : (s.setLowestEvent cls).AttnLaw := by
  unfold State.setLowestEvent
  split
  · exact h.reply _ _
  · exact s.attnLaw_replyJudged (Attention.judge_law _) _ _

/-! ### The other requests -/

theorem configLaneEvent (v : LaneValues) : (s.configLaneEvent v).AttnLaw := by
  unfold State.configLaneEvent
  split
  · exact h.reply _ _
  · split
    · exact h.reply _ _
    · exact (h.of_attention (s.configure_attention _)).reply _ _

theorem configRegionEvent (id first count code seed : Nat) : (s.configRegionEvent id first count code seed).AttnLaw := by
  unfold State.configRegionEvent
  split
  · exact h.reply _ _
  · split
    · exact h.reply _ _
    · split
      · exact ((h.clearRegion id).of_attention (setRegion_attention _ _ _)).reply _ _
      · exact h.reply _ _

theorem configRegionClearEvent (id : Nat) : (s.configRegionClearEvent id).AttnLaw := by
  unfold State.configRegionClearEvent
  split
  · exact h.reply _ _
  · split
    · exact h.reply _ _
    · exact (h.clearRegion id).reply _ _

theorem openTaken (kind : OpenKind) : (s.openTaken kind).AttnLaw := by
  unfold State.openTaken
  dsimp only []
  split
  · exact h.reply _ _
  · exact h

theorem openColdEvent : s.openColdEvent.AttnLaw := by
  unfold State.openColdEvent
  split
  · exact h.openTaken _
  · exact h.reply _ _

theorem openJoinEvent : s.openJoinEvent.AttnLaw := by
  unfold State.openJoinEvent
  split
  · exact h.openTaken _
  · exact h.reply _ _

theorem stopEvent : s.stopEvent.AttnLaw := by
  unfold State.stopEvent
  split
  · exact (h.stopRequest _ _).reply _ _
  · exact h.reply _ _

theorem readEvent (address count : Nat) : (s.readEvent address count).AttnLaw := by
  unfold State.readEvent
  split
  · exact h.reply _ _
  · split
    · exact h.reply _ _
    · exact h

theorem writeEvent (address count : Nat) (words : List Word) : (s.writeEvent address count words).AttnLaw := by
  unfold State.writeEvent
  split
  · exact h.reply _ _
  · split
    · exact h.reply _ _
    · exact h

theorem fillEvent (page : Nat) (value : Word) : (s.fillEvent page value).AttnLaw := by
  unfold State.fillEvent
  split
  · exact h.reply _ _
  · split
    · exact h.reply _ _
    · split
      · exact h.reply _ _
      · exact (h.of_attention (s.fillPage_attention _ _)).reply _ _

theorem adoptReply (id : Nat) : (s.adoptReply id).AttnLaw := by
  unfold State.adoptReply
  split
  · exact h.reply _ _
  · split
    · exact (h.of_attention (s.adoptRegion_attention _ _)).reply _ _
    · exact h.reply _ _

theorem adoptEvent (id : Nat) : (s.adoptEvent id).AttnLaw := by
  unfold State.adoptEvent
  dsimp only []
  split
  · exact attnLaw_warmRestart _
  · exact h.adoptReply id

theorem framesEvent (first count : Nat) : (s.framesEvent first count).AttnLaw := by
  unfold State.framesEvent
  split <;> exact h.reply _ _

theorem setLockReply (index : Nat) (r : LockRecord) (o : ReplyOutcome) (bs : List Byte) :
    ((s.setLock index r).reply o bs).AttnLaw := (h.of_attention (s.setLock_attention index r)).reply _ _

theorem arm (index : Nat) (mode : LockMode) (gate : Option Nat) (preset : Nat) : (s.arm index mode gate preset).AttnLaw := by
  unfold State.arm
  dsimp only []
  split
  · split
    · exact h.setLockReply _ _ _ _
    · exact h.reply _ _
  · exact h.setLockReply _ _ _ _
  · exact h.setLockReply _ _ _ _

theorem lockArmEvent (index code : Nat) (gate : Option Nat) (preset : Nat) :
    (s.lockArmEvent index code gate preset).AttnLaw := by
  unfold State.lockArmEvent
  split
  · exact h.reply _ _
  · split
    · exact h.reply _ _
    · split
      · exact h.reply _ _
      · split
        · exact h.arm _ _ _ _
        · exact h.reply _ _

theorem lockCancelEvent (index : Nat) : (s.lockCancelEvent index).AttnLaw := by
  unfold State.lockCancelEvent
  split
  · exact h.reply _ _
  · split
    · exact h.reply _ _
    · unfold cancelLock
      dsimp only []
      split
      · exact h.reply _ _
      · exact h.setLockReply _ _ _ _

theorem lockReadEvent (first count : Nat) : (s.lockReadEvent first count).AttnLaw := by
  unfold State.lockReadEvent
  split
  · exact h.reply _ _
  · split
    · exact h.reply _ _
    · have hcollected : (s.collectLocks first count).AttnLaw := h
      exact hcollected.reply _ _

/-! ### The words of a READ and of a WRITE, OPEN, and the end of a reply -/

theorem readOne (next left : Nat) (delivered : List Word) : (s.readOne next left delivered).AttnLaw := by
  unfold State.readOne
  split <;> rename_i hread
  · split
    · exact (h.of_readWord hread).of_attention (reply_attention _ _ _)
    · exact (h.of_readWord hread).of_attention rfl
  · exact (h.of_readWord hread).of_attention (reply_attention _ _ _)

theorem hostWrite (page offset : Nat) (w : Word) : (s.hostWrite page offset w).AttnLaw := by
  unfold State.hostWrite
  extract_lets s1 s2
  have hcaptured : s1.AttnLaw := by
    dsimp only [s1]
    split
    · exact h.capture page
    · exact h
  have hwritten : s2.AttnLaw := hcaptured.of_attention (writeWord_attention _ page offset w)
  split <;> exact hwritten

theorem writeOne (next done : Nat) (w : Word) (rest : List Word) : (s.writeOne next done w rest).AttnLaw := by
  unfold State.writeOne
  split
  · exact h.of_attention (reply_attention _ _ _)
  · have hword := h.hostWrite (next / 256) (next % 256) w
    dsimp only []
    split
    · exact hword.of_attention (reply_attention _ _ _)
    · exact hword

theorem joinOpened (n : Nat) : (s.joinOpened n).AttnLaw := h.of_attention (reply_attention _ _ _)

theorem coldOpened (n : Nat) : (s.coldOpened n).AttnLaw := h.of_attention (reply_attention _ _ _)

theorem mappingEnded (o : Opening) : (s.mappingEnded o).AttnLaw := by
  have hmapped := h.of_attention (s.mapAll_attention o.kind)
  unfold State.mappingEnded
  generalize s.mapAll o.kind = s1 at hmapped ⊢
  dsimp only []
  split
  · exact s1.attnLaw_warmRestart
  · have hset := hmapped.of_attention (s1.openSettings_attention o.kind fun p => (s.page p).mapped)
    generalize s1.openSettings o.kind (fun p => (s.page p).mapped) = s2 at hset ⊢
    split
    · exact hset.joinOpened _
    · exact hset

theorem replyEnded : s.replyEnded.AttnLaw := by
  unfold State.replyEnded
  extract_lets isRestart port s1 s2
  have hended : s2.AttnLaw := by
    dsimp only [s2]
    split
    · exact s1.attnLaw_warmRestart
    · exact h
  exact hended

end AttnLaw
end State

/-! ### Commands -/

/-- A command that goes on goes on with the law. -/
def AttnResult (r : Result) : Prop := ∀ t, r = .next t → t.AttnLaw

theorem State.AttnLaw.next {t : State} (h : t.AttnLaw) : AttnResult (.next t) := fun u hu => by
  cases hu; exact h

/-- The same of a command that goes on with the controller as it was. -/
theorem State.AttnLaw.next_of_attention {s t : State} (h : s.AttnLaw) (e : t.attention = s.attention) :
    AttnResult (.next t) := (h.of_attention e).next

section Commands

variable {s : State} (h : s.AttnLaw)
include h

theorem execRestartInput_attn : AttnResult (execRestartInput s) := by
  unfold execRestartInput
  split
  · exact h.next
  · split
    · exact h.next_of_attention rfl
    · exact s.attnLaw_warmRestart.next

theorem execDisturbance_attn (frame offset : Nat) (f : Cell → Cell) :
    AttnResult (if isStoreWord frame offset then .next (s.disturb frame offset f)
      else .fault (.noStoreWord frame offset)) := by
  split
  · exact h.next_of_attention s.sweepOn_attention
  · intro t ht; cases ht

theorem execHostFrameCutOff_attn : AttnResult (execHostFrameCutOff s) := by
  unfold execHostFrameCutOff
  split
  · exact h.next
  · exact (State.attnLaw_badFrame _).next

theorem execReplyEnd_attn : AttnResult (execReplyEnd s) := by
  unfold execReplyEnd
  split
  · exact h.next
  · split
    · exact h.replyEnded.next
    · exact h.next_of_attention rfl
    · exact h.next_of_attention rfl

theorem execOpenMappingEnd_attn : AttnResult (execOpenMappingEnd s) := by
  unfold execOpenMappingEnd
  split
  · exact (h.mappingEnded _).next
  all_goals exact h.next

theorem execOpenColdZeroFillWrite_attn (page : Nat) : AttnResult (execOpenColdZeroFillWrite page s) := by
  unfold execOpenColdZeroFillWrite
  split
  · split
    · exact h.next_of_attention (s.writeWord_attention page _ 0)
    · exact h.next
  all_goals exact h.next

theorem execOpenColdCompletion_attn : AttnResult (execOpenColdCompletion s) := by
  unfold execOpenColdCompletion
  split
  · exact (h.coldOpened _).next
  all_goals exact h.next

theorem execHostReadWord_attn : AttnResult (execHostReadWord s) := by
  unfold execHostReadWord
  split
  · exact (h.readOne _ _ _).next
  all_goals exact h.next

theorem execHostWriteWord_attn : AttnResult (execHostWriteWord s) := by
  unfold execHostWriteWord
  split
  · exact (h.writeOne _ _ _ _).next
  all_goals exact h.next

theorem execGateRead_attn : AttnResult (execGateRead s) := by
  unfold execGateRead
  split
  · exact (h.readGate _ _ _).next
  all_goals exact h.next

theorem execLockAdvance_attn : AttnResult (execLockAdvance s) := by
  unfold execLockAdvance
  split
  · exact (h.endAdvance _).next
  all_goals exact h.next

theorem execMoveTake_attn : AttnResult (execMoveTake s) := by
  unfold execMoveTake
  split
  · split
    · exact (h.takeMove _ _).next
    · exact h.next
  · exact h.next

theorem execMoveStep_attn : AttnResult (execMoveStep s) := by
  unfold execMoveStep
  split
  · split
    · exact (h.stepMove _).next
    · exact h.next
  · exact h.next

/-- The timebase carried to an instant leaves the controller (log 1). -/
theorem State.AttnLaw.passTo (t : Nat) : (s.passTo t).AttnLaw := h

theorem execWindowExpiry_attn : AttnResult (execWindowExpiry s) := by
  unfold execWindowExpiry
  split
  · exact (h.passTo _).decideVote.next
  · exact h.next

theorem execDeadlineExpiry_attn : AttnResult (execDeadlineExpiry s) := by
  unfold execDeadlineExpiry
  split
  · exact ((h.passTo _).stopRequest _ _).next
  · exact h.next

theorem execHalfPeriodExpiry_attn : AttnResult (execHalfPeriodExpiry s) := by
  unfold execHalfPeriodExpiry
  split
  · exact h.next_of_attention rfl
  · exact h.next

theorem execLinkFrameCheck_attn (port : LinkPort) (words : List Word) : AttnResult (execLinkFrameCheck port words s) := by
  unfold execLinkFrameCheck
  split
  · exact h.next
  · exact (State.AttnLaw.foldl (fun _ w ht => ht.receiveWord port w) words h).next

theorem execLinkReceiveCutOff_attn (port : LinkPort) : AttnResult (execLinkReceiveCutOff port s) := by
  unfold execLinkReceiveCutOff
  split
  · exact h.next
  · exact (State.attnLaw_checkFail _ _).next

theorem execSilenceTimerExpiry_attn : AttnResult (execSilenceTimerExpiry s) := by
  unfold execSilenceTimerExpiry
  split
  · exact ((h.passTo _).failAttempt _ _).next
  · exact h.next

theorem execTransmitEnd_attn (port : LinkPort) : AttnResult (execTransmitEnd port s) := by
  unfold execTransmitEnd
  split
  · exact (h.transmitEnded _).next
  · exact h.next

theorem execIdleFill_attn (port : LinkPort) : AttnResult (execIdleFill port s) := by
  unfold execIdleFill
  split
  · exact ((h.passTo _).setLink _ _).next
  · exact h.next

theorem execLinkTimeout_attn (port : LinkPort) : AttnResult (execLinkTimeout port s) := by
  unfold execLinkTimeout
  split
  · exact (State.attnLaw_linkDown _ _).next
  · exact h.next

/-- Every command keeps the law, if it goes on. -/
theorem exec_attn (i : Instr) : AttnResult (exec i s) := by
  have request : ∀ (c : Instr) {own : State → State}, (∀ t : State, t.AttnLaw → (own t).AttnLaw) →
      AttnResult (.next (s.request c own)) := fun c _ hown => (h.request c hown).next
  cases i with
  | powerOn => exact State.AttnLaw.next Attention.cleared_law
  | startUpSweepEnd => exact h.next_of_attention s.sweepEnded_attention
  | restartInput => exact execRestartInput_attn h
  | oneBitDisturbance frame offset => exact execDisturbance_attn h frame offset Cell.disturb
  | silentDisturbance frame offset value => exact execDisturbance_attn h frame offset fun c => c.silent value
  | hostFrameCheck bytes => exact (State.AttnLaw.foldl (fun _ b ht => ht.receiveByte b) bytes h).next
  | hostFrameCutOff => exact execHostFrameCutOff_attn h
  | replyEnd => exact execReplyEnd_attn h
  | status tag => exact request _ fun _ ht => ht.reply _ _
  | configLane tag values => exact request _ fun _ ht => ht.configLaneEvent values
  | configRegion tag id first count code seed => exact request _ fun _ ht => ht.configRegionEvent id first count code seed
  | configRegionClear tag id => exact request _ fun _ ht => ht.configRegionClearEvent id
  | openCold tag => exact request _ fun _ ht => ht.openColdEvent
  | openJoin tag => exact request _ fun _ ht => ht.openJoinEvent
  | openMappingEnd => exact execOpenMappingEnd_attn h
  | openColdZeroFillWrite page => exact execOpenColdZeroFillWrite_attn h page
  | openColdCompletion => exact execOpenColdCompletion_attn h
  | stop tag => exact request _ fun _ ht => ht.stopEvent
  | read tag address count => exact request _ fun _ ht => ht.readEvent address count
  | hostReadWord => exact execHostReadWord_attn h
  | write tag address count words => exact request _ fun _ ht => ht.writeEvent address count words
  | hostWriteWord => exact execHostWriteWord_attn h
  | fill tag page value => exact request _ fun _ ht => ht.fillEvent page value
  | adopt tag region => exact request _ fun _ ht => ht.adoptEvent region
  | cycleClose tag cycle => exact request _ fun _ ht => ht.closeEvent cycle
  | gateRead => exact execGateRead_attn h
  | lockAdvance => exact execLockAdvance_attn h
  | lockArm tag index code gate preset => exact request _ fun _ ht => ht.lockArmEvent index code gate preset
  | lockCancel tag index => exact request _ fun _ ht => ht.lockCancelEvent index
  | lockRead tag first count => exact request _ fun _ ht => ht.lockReadEvent first count
  | take tag => exact request _ fun _ ht => ht.takeEvent
  | doneClass tag cls => exact request _ fun _ ht => ht.doneClassEvent cls
  | doneNoClass tag => exact request _ fun _ ht => ht.doneNoClassEvent
  | mask tag set => exact request _ fun t _ => t.attnLaw_replyJudged (Attention.judge_law _) _ _
  | priorityFixed tag => exact request _ fun t _ => t.attnLaw_replyJudged (Attention.judge_law _) _ _
  | priorityRotating tag => exact request _ fun t _ => t.attnLaw_replyJudged (Attention.judge_law _) _ _
  | prioritySetLowest tag cls => exact request _ fun _ ht => ht.setLowestEvent cls
  | frames tag first count => exact request _ fun _ ht => ht.framesEvent first count
  | poison tag => exact request _ fun _ ht => ht.reply _ _
  | restart tag => exact request _ fun _ ht => ht.reply _ _
  | patrolStep => exact h.patrolStep.next
  | moveTake => exact execMoveTake_attn h
  | moveStep => exact execMoveStep_attn h
  | windowExpiry => exact execWindowExpiry_attn h
  | deadlineExpiry => exact execDeadlineExpiry_attn h
  | halfPeriodExpiry => exact execHalfPeriodExpiry_attn h
  | linkFrameCheck port words => exact execLinkFrameCheck_attn h port words
  | linkReceiveCutOff port => exact execLinkReceiveCutOff_attn h port
  | silenceTimerExpiry => exact execSilenceTimerExpiry_attn h
  | sendStep => exact h.sendStep.next
  | finalSendStep => exact h.finalSendStep.next
  | lockImageQueued => exact h.queueLockImage.next
  | syncMarkQueued => exact h.queueSyncMark.next
  | transmitEnd port => exact execTransmitEnd_attn h port
  | idleFill port => exact execIdleFill_attn h port
  | linkTimeout port => exact execLinkTimeout_attn h port

end Commands

/-- Settles O56: the command taken keeps the law on the state with the rest of the queue, an idle step leaves the controller,
and a class is offered exactly where the search of the order finds one that a TAKE considers. -/
theorem attnFollowsTake : Obligations.AttnFollowsTake := by
  refine ⟨fun s t h hstep => ?_, fun a => ?_⟩
  · unfold step at hstep
    split at hstep
    · rename_i c rest _
      have hpopped : State.AttnLaw { s with pending := rest } := h
      exact exec_attn hpopped c t hstep
    · cases hstep
      exact h
  · simp only [a.offered_isSome_iff, a.eligible_iff]

end Sys2Proof.Machine
end

section
/-! The payloads of the requests read back: every well-formed request from its kind, tag and payload (R186, R187). -/

namespace Sys2Proof.Machine

/-! ### Fields read back -/

theorem toNat_ofNat_byte {n : Nat} (h : n < 256) : (BitVec.ofNat 8 n).toNat = n := by
  rw [BitVec.toNat_ofNat]
  exact Nat.mod_eq_of_lt h

theorem fieldValue_byte (b : Byte) : fieldValue [b] = b.toNat := by simp [fieldValue]

/-- A code byte other than a code is read as another value. -/
theorem fieldValue_byte_ne {b c : Byte} (h : b ≠ c) : ¬ fieldValue [b] = c.toNat := fun he =>
  h (BitVec.eq_of_toNat_eq ((fieldValue_byte b).symm.trans he))

theorem fieldValue_pair (a b : Byte) : fieldValue [a, b] = a.toNat * 256 + b.toNat := by simp [fieldValue]

theorem fieldValue_field1 {n : Nat} (h : n < 256) : fieldValue (field1 n) = n :=
  (fieldValue_byte _).trans (toNat_ofNat_byte h)

theorem fieldValue_field2 {n : Nat} (h : n < 65536) : fieldValue (field2 n) = n := by
  simp only [field2, fieldValue_pair, BitVec.toNat_ofNat]
  omega

theorem fieldValue_field3 {n : Nat} (h : n < 16777216) : fieldValue (field3 n) = n := by
  simp only [fieldValue, field3, field2, List.foldl_cons, List.foldl_nil, BitVec.toNat_ofNat]
  omega

theorem fieldValue_field4 {n : Nat} (h : n < 4294967296) : fieldValue (field4 n) = n := by
  simp only [fieldValue, field4, field3, field2, List.foldl_cons, List.foldl_nil, BitVec.toNat_ofNat]
  omega

theorem fieldValue_wordBytes (w : Word) : fieldValue (wordBytes w) = w.toNat := fieldValue_field2 w.isLt

theorem ofNat_fieldValue_wordBytes (w : Word) : BitVec.ofNat 16 (fieldValue (wordBytes w)) = w := by
  rw [fieldValue_wordBytes, BitVec.ofNat_toNat, BitVec.setWidth_eq]

theorem readWords_flatMap (ws : List Word) : readWords (ws.flatMap wordBytes) = ws := by
  induction ws with
  | nil => rfl
  | cons w ws ih => exact congrArg₂ List.cons (ofNat_fieldValue_wordBytes w) ih

/-! ### Requests read back -/

/-- Every well-formed request has its kind, its tag and the payload length that its kind requires (R186, R187). -/
theorem requestOf_carried (c : Instr) : Laws.Carried.Statement c := by
  cases c with
  | status tag => exact Laws.Carried.status tag
  | configLane tag values => exact Laws.Carried.configLane tag values
  | configRegion tag id firstPage pageCount classCode seed =>
    exact Laws.Carried.configRegion tag id firstPage pageCount classCode seed
  | configRegionClear tag id => exact Laws.Carried.configRegionClear tag id
  | openCold tag => exact Laws.Carried.openCold tag
  | openJoin tag => exact Laws.Carried.openJoin tag
  | stop tag => exact Laws.Carried.stop tag
  | read tag address count => exact Laws.Carried.read tag address count
  | write tag address count words => exact Laws.Carried.write tag address count words
  | fill tag page value => exact Laws.Carried.fill tag page value
  | adopt tag region => exact Laws.Carried.adopt tag region
  | cycleClose tag cycle => exact Laws.Carried.cycleClose tag cycle
  | lockArm tag index modeCode gate preset => exact Laws.Carried.lockArm tag index modeCode gate preset
  | lockCancel tag index => exact Laws.Carried.lockCancel tag index
  | lockRead tag first count => exact Laws.Carried.lockRead tag first count
  | take tag => exact Laws.Carried.take tag
  | doneClass tag cls => exact Laws.Carried.doneClass tag cls
  | doneNoClass tag => exact Laws.Carried.doneNoClass tag
  | mask tag set => exact Laws.Carried.mask tag set
  | priorityFixed tag => exact Laws.Carried.priorityFixed tag
  | priorityRotating tag => exact Laws.Carried.priorityRotating tag
  | prioritySetLowest tag cls => exact Laws.Carried.prioritySetLowest tag cls
  | frames tag first count => exact Laws.Carried.frames tag first count
  | poison tag => exact Laws.Carried.poison tag
  | restart tag => exact Laws.Carried.restart tag
  | _ => exact Laws.carried_of_none rfl

theorem LaneValues.wf_iff (v : LaneValues) : v.wf = true ↔
    (v.lane < 256 ∧ v.window < 65536 ∧ v.deadline < 65536 ∧ v.missLimit < 256 ∧ v.halfPeriod < 256 ∧ v.pace < 256) ∧
      v.retire < 256 ∧ v.finalLimit < 256 ∧ v.burst < 256 ∧ v.linkTimeout < 65536 ∧ v.serveEnable < 256 := by
  simp only [LaneValues.wf, Bool.and_eq_true, decide_eq_true_eq, and_assoc]

theorem readLane_laneBytes {v : LaneValues} (h : v.wf = true) : readLane (laneBytes v) = v := by
  obtain ⟨⟨hlane, hwindow, hdeadline, hmiss, hhalf, hpace⟩, hretire, hfinal, hburst, htimeout, hserve⟩ :=
    (LaneValues.wf_iff v).mp h
  obtain ⟨lane, window, deadline, missLimit, halfPeriod, pace, retire, finalLimit, burst, linkTimeout, serveEnable⟩ := v
  show LaneValues.mk (fieldValue (field1 lane)) (fieldValue (field2 window)) (fieldValue (field2 deadline))
    (fieldValue (field1 missLimit)) (fieldValue (field1 halfPeriod)) (fieldValue (field1 pace)) (fieldValue (field1 retire))
    (fieldValue (field1 finalLimit)) (fieldValue (field1 burst)) (fieldValue (field2 linkTimeout))
    (fieldValue (field1 serveEnable)) = _
  rw [fieldValue_field1 hlane, fieldValue_field2 hwindow, fieldValue_field2 hdeadline, fieldValue_field1 hmiss,
    fieldValue_field1 hhalf, fieldValue_field1 hpace, fieldValue_field1 hretire, fieldValue_field1 hfinal,
    fieldValue_field1 hburst, fieldValue_field2 htimeout, fieldValue_field1 hserve]

/-- A gate field gives the gate back; FFFF is no gate (R187). -/
theorem readGate_field2 {gate : Option Nat} (h : gateFits gate = true) :
    (if fieldValue (field2 (gate.getD 65535)) = 65535 then none else some (fieldValue (field2 (gate.getD 65535)))) =
      gate := by
  cases gate with
  | none => exact if_pos (fieldValue_field2 (by decide))
  | some g =>
    have hg : g < 65535 := of_decide_eq_true h
    rw [Option.getD_some, fieldValue_field2 (by omega), if_neg (by omega)]

/-- A well-formed request is read back from its kind, tag and payload (R187). -/
theorem readRequest_requestOf {c : Instr} {r : Request} (hwf : c.wf = true) (h : requestOf c = some r) :
    readRequest r = some c := by
  cases c with
  | status | openCold | openJoin | stop | take | doneNoClass | priorityFixed | priorityRotating | poison | restart =>
    cases h
    rfl
  | configLane tag values =>
    cases h
    simp only [Instr.wf, Bool.and_eq_true] at hwf
    exact congrArg (fun v => some (Instr.configLane tag v)) (readLane_laneBytes hwf.2)
  | configRegion tag id firstPage pageCount classCode seed =>
    cases h
    simp only [Instr.wf, Bool.and_eq_true, decide_eq_true_eq] at hwf
    obtain ⟨⟨⟨⟨⟨-, hid⟩, hfirst⟩, hcount⟩, hclass⟩, hseed⟩ := hwf
    show some (Instr.configRegion tag (fieldValue (field1 id)) (fieldValue (field1 firstPage))
      (fieldValue (field1 pageCount)) (fieldValue (field1 classCode)) (fieldValue (field3 seed))) = _
    rw [fieldValue_field1 hid, fieldValue_field1 hfirst, fieldValue_field1 hcount, fieldValue_field1 hclass,
      fieldValue_field3 hseed]
  | configRegionClear tag id =>
    cases h
    simp only [Instr.wf, Bool.and_eq_true, decide_eq_true_eq] at hwf
    exact congrArg (fun id => some (Instr.configRegionClear tag id)) (fieldValue_field1 hwf.2)
  | read tag address count =>
    cases h
    simp only [Instr.wf, Bool.and_eq_true, decide_eq_true_eq] at hwf
    obtain ⟨⟨-, haddress⟩, hcount⟩ := hwf
    exact congrArg₂ (fun a n => some (Instr.read tag a n)) (fieldValue_field2 haddress) (fieldValue_field1 hcount)
  | write tag address count words =>
    cases h
    simp only [Instr.wf, Bool.and_eq_true, decide_eq_true_eq] at hwf
    obtain ⟨⟨⟨-, haddress⟩, hcount⟩, -⟩ := hwf
    show some (Instr.write tag (fieldValue (field2 address)) (fieldValue (field1 count))
      (readWords (words.flatMap wordBytes))) = _
    rw [fieldValue_field2 haddress, fieldValue_field1 hcount, readWords_flatMap]
  | fill tag page value =>
    cases h
    simp only [Instr.wf, Bool.and_eq_true, decide_eq_true_eq] at hwf
    exact congrArg₂ (fun p w => some (Instr.fill tag p w)) (fieldValue_field1 hwf.2) (ofNat_fieldValue_wordBytes value)
  | adopt tag region =>
    cases h
    simp only [Instr.wf, Bool.and_eq_true, decide_eq_true_eq] at hwf
    exact congrArg (fun id => some (Instr.adopt tag id)) (fieldValue_field1 hwf.2)
  | cycleClose tag cycle =>
    cases h
    simp only [Instr.wf, Bool.and_eq_true, decide_eq_true_eq] at hwf
    exact congrArg (fun n => some (Instr.cycleClose tag n)) (fieldValue_field4 hwf.2)
  | lockArm tag index modeCode gate preset =>
    cases h
    simp only [Instr.wf, Bool.and_eq_true, decide_eq_true_eq] at hwf
    obtain ⟨⟨⟨⟨-, hindex⟩, hmode⟩, hgate⟩, hpreset⟩ := hwf
    show some (Instr.lockArm tag (fieldValue (field1 index)) (fieldValue (field1 modeCode))
      (if fieldValue (field2 (gate.getD 65535)) = 65535 then none else some (fieldValue (field2 (gate.getD 65535))))
      (fieldValue (field2 preset))) = _
    rw [fieldValue_field1 hindex, fieldValue_field1 hmode, readGate_field2 hgate, fieldValue_field2 hpreset]
  | lockCancel tag index =>
    cases h
    simp only [Instr.wf, Bool.and_eq_true, decide_eq_true_eq] at hwf
    exact congrArg (fun k => some (Instr.lockCancel tag k)) (fieldValue_field1 hwf.2)
  | lockRead tag first count =>
    cases h
    simp only [Instr.wf, Bool.and_eq_true, decide_eq_true_eq] at hwf
    obtain ⟨⟨-, hfirst⟩, hcount⟩ := hwf
    exact congrArg₂ (fun k n => some (Instr.lockRead tag k n)) (fieldValue_field1 hfirst) (fieldValue_field1 hcount)
  | doneClass tag cls =>
    cases h
    simp only [Instr.wf, Bool.and_eq_true, decide_eq_true_eq] at hwf
    have hcls : fieldValue (field1 cls) = cls := fieldValue_field1 (by omega)
    show (if fieldValue (field1 cls) = 255 then some (Instr.doneNoClass tag) else
      some (Instr.doneClass tag (fieldValue (field1 cls)))) = _
    rw [hcls, if_neg (by omega)]
  | mask tag set =>
    cases h
    show some (Instr.mask tag (BitVec.ofNat 8 (fieldValue [set]))) = _
    rw [fieldValue_byte, BitVec.ofNat_toNat, BitVec.setWidth_eq]
  | prioritySetLowest tag cls =>
    cases h
    simp only [Instr.wf, Bool.and_eq_true, decide_eq_true_eq] at hwf
    exact congrArg (fun k => some (Instr.prioritySetLowest tag k)) (fieldValue_field1 hwf.2)
  | frames tag first count =>
    cases h
    simp only [Instr.wf, Bool.and_eq_true, decide_eq_true_eq] at hwf
    obtain ⟨⟨-, hfirst⟩, hcount⟩ := hwf
    exact congrArg₂ (fun k n => some (Instr.frames tag k n)) (fieldValue_field1 hfirst) (fieldValue_field1 hcount)
  | _ => cases h

end Sys2Proof.Machine
end

section
/-! Requests judged by the port, and the bytes of a host frame received (R175 to R177, R186). -/

namespace Sys2Proof.Machine

/-! ### The length of a frame -/

/-- The length field counts the bytes after it, the check apart (R186). -/
theorem hostFrameWhole_iff {x high low : Byte} {mid : List Byte} :
    hostFrameWhole (x :: high :: low :: mid) = true ↔ high.toNat * 256 + low.toNat + 2 ≤ mid.length := by
  have hlength : fieldAt (x :: high :: low :: mid) 1 2 = high.toNat * 256 + low.toNat := fieldValue_pair high low
  simp only [hostFrameWhole, hlength, Bool.and_eq_true, decide_eq_true_eq, List.length_cons]
  omega

/-- Past its length field a frame holds a byte of any value (R175). -/
theorem not_cutOff_of_length {x b : Byte} {xs : List Byte} (h : b = 0xA5#8 → 2 ≤ xs.length) :
    ¬ (b = 0xA5#8 ∧ (x :: xs).length ≤ 2) := fun ⟨hb, hlen⟩ => by
  have := h hb
  simp only [List.length_cons] at hlen
  omega

namespace State

variable {s : State} {kind tag : Nat}

/-! ### Requests judged -/

/-- A failed frame at an idle port is answered at once, with PORT raised (R175). -/
theorem badFrame_of_idle (h : s.port.service = none) : s.badFrame =
    { s with
      attention := s.attention.raise (.port .badFrame)
      port := s.port.push ⟨.plain, 0, 0, .badFrame, []⟩ } := by
  rw [badFrame, h]
  rfl

/-- A failed frame beside a request in service is owed its answer, with PORT raised (R175, R177). -/
theorem badFrame_of_busy {v : InService} (h : s.port.service = some v) : s.badFrame = s.owe 0 0 .badFrame .badFrame := by
  rw [badFrame, h]

theorem judge_of_busy {v : InService} (h : s.port.service = some v) (kind tag : Nat) (ok : Bool) (c : Option Instr) :
    s.judge kind tag ok c = s.owe kind tag .busy .busy := by
  rw [judge, h]

theorem judge_of_idle (h : s.port.service = none) (kind tag : Nat) (ok : Bool) (c : Option Instr) :
    s.judge kind tag ok c = s.judgeIdle kind tag ok c := by
  rw [judge, h]

theorem judgeIdle_badKind (hkind : ¬ (1 ≤ kind ∧ kind ≤ 20)) (ok : Bool) (c : Option Instr) :
    s.judgeIdle kind tag ok c = s.answerNow kind tag .badKind := if_pos (by omega)

theorem judgeIdle_badLength (hkind : 1 ≤ kind ∧ kind ≤ 20) (c : Option Instr) :
    s.judgeIdle kind tag false c = s.answerNow kind tag .badLength := by
  unfold judgeIdle
  rw [if_neg (by omega)]
  rfl

/-- During the sweep only a STATUS is taken (R176). -/
theorem judgeIdle_busy (hkind : 1 ≤ kind ∧ kind ≤ 20) (hsweep : s.sweeping = true) (hstatus : kind ≠ 1)
    (c : Option Instr) : s.judgeIdle kind tag true c = s.answerNow kind tag .busy := by
  unfold judgeIdle
  rw [if_neg (by omega), if_neg (by decide), if_pos ⟨hsweep, hstatus⟩]

theorem judgeIdle_taken (hkind : 1 ≤ kind ∧ kind ≤ 20) (hsweep : s.sweeping = false ∨ kind = 1) (c : Instr) :
    s.judgeIdle kind tag true (some c) = s.serve1 kind tag (some c) := by
  have hsweep : ¬ (s.sweeping = true ∧ kind ≠ 1) := by rcases hsweep with h | h <;> simp [h]
  rw [judgeIdle, if_neg (by omega), if_neg (by decide), if_neg hsweep]

/-- A code that no row carries is refused by its block, the mode before the code (R187; log 12, 35). -/
theorem judgeIdle_refused (hkind : 1 ≤ kind ∧ kind ≤ 20) (hsweep : s.sweeping = false) :
    s.judgeIdle kind tag true none =
      s.answered kind tag (if kind = 3 ∧ s.isOffline = false then .wrongMode else .badArgument) [] := by
  have hnoSweep : ¬ (s.sweeping = true ∧ kind ≠ 1) := by simp [hsweep]
  rw [judgeIdle, if_neg (by omega), if_neg (by decide), if_neg hnoSweep]
  show (s.inHand kind tag).refuseCode kind = _
  have hmode : (s.inHand kind tag).isOffline = s.isOffline := rfl
  rw [refuseCode, hmode, inHand_reply, inHand_reply]
  split <;> rfl

/-! ### Bytes received -/

theorem setHostRx_self {rx : List Byte} (h : s.port.rx = rx) : s.setHostRx rx = s := by
  rw [setHostRx, ← h]

/-- A start byte on a line with no frame in part begins one (R186). -/
theorem receiveByte_start (h : s.port.rx = []) : s.receiveByte 0xA5#8 = s.setHostRx [0xA5#8] := by
  rw [receiveByte, h]
  rfl

/-- A start byte in a length position ends the frame in part, which fails, and begins a new one (R175). -/
theorem receiveByte_cut (h : s.port.rx.length = 1 ∨ s.port.rx.length = 2) :
    s.receiveByte 0xA5#8 = (s.setHostRx []).badFrame.setHostRx [0xA5#8] := by
  unfold receiveByte
  split
  · simp_all
  · rename_i x xs hrx
    rw [hrx] at h
    exact if_pos ⟨rfl, by omega⟩

/-- A byte that leaves the frame in part joins it (R175). -/
theorem receiveByte_of_part {x b : Byte} {xs : List Byte} (hcut : b = 0xA5#8 → 2 ≤ xs.length)
    (h : hostFrameWhole (x :: (xs ++ [b])) = false) :
    (s.setHostRx (x :: xs)).receiveByte b = s.setHostRx (x :: (xs ++ [b])) :=
  (if_neg (not_cutOff_of_length hcut)).trans (if_neg (by rw [List.cons_append, h]; exact Bool.false_ne_true))

/-- The byte that makes the frame whole has it checked (R175). -/
theorem receiveByte_of_whole {x b : Byte} {xs : List Byte} (hcut : b = 0xA5#8 → 2 ≤ xs.length)
    (h : hostFrameWhole (x :: (xs ++ [b])) = true) :
    (s.setHostRx (x :: xs)).receiveByte b = (s.setHostRx []).checkHostFrame (x :: (xs ++ [b])) :=
  (if_neg (not_cutOff_of_length hcut)).trans (if_pos h)

/-- The bytes that are missing of a frame make it whole, and it is checked (R175, R186). -/
theorem foldl_receiveByte_of_part {x high low : Byte} (bs : List Byte) : ∀ (b : Byte) (mid : List Byte),
    mid.length + (b :: bs).length = high.toNat * 256 + low.toNat + 2 →
    (b :: bs).foldl receiveByte (s.setHostRx (x :: high :: low :: mid)) =
      (s.setHostRx []).checkHostFrame (x :: high :: low :: (mid ++ b :: bs)) := by
  induction bs with
  | nil =>
    intro b mid hlen
    have hwhole : hostFrameWhole (x :: high :: low :: (mid ++ [b])) = true := by
      rw [hostFrameWhole_iff, List.length_append, ← hlen]
    exact receiveByte_of_whole (xs := high :: low :: mid) (fun _ => by simp) hwhole
  | cons b' bs ih =>
    intro b mid hlen
    simp only [List.length_cons] at hlen
    have hpart : hostFrameWhole (x :: high :: low :: (mid ++ [b])) = false := by
      rw [← Bool.not_eq_true, hostFrameWhole_iff, List.length_append, List.length_singleton]
      omega
    have hrest := ih b' (mid ++ [b]) (by simp only [List.length_append, List.length_cons, List.length_nil]; omega)
    rw [List.append_assoc] at hrest
    rw [List.foldl_cons, receiveByte_of_part (xs := high :: low :: mid) (fun _ => by simp) hpart]
    exact hrest

/-- On a line with no frame in part the bytes of one frame are received and checked as one (R175, R186). -/
theorem execHostFrameCheck_of_frame {high low : Byte} {body : List Byte} (h : s.port.rx = []) (hhigh : high ≠ 0xA5#8)
    (hlow : low ≠ 0xA5#8) (hlen : body.length = high.toNat * 256 + low.toNat + 2) :
    exec (.hostFrameCheck (0xA5#8 :: high :: low :: body)) s =
      .next (s.checkHostFrame (0xA5#8 :: high :: low :: body)) := by
  refine congrArg Host.Outcome.next ?_
  obtain ⟨b, bs, rfl⟩ := List.exists_cons_of_length_pos (l := body) (by omega)
  have hpart : hostFrameWhole [0xA5#8, high, low] = false := by
    rw [← Bool.not_eq_true, hostFrameWhole_iff, List.length_nil]
    omega
  have hrest := foldl_receiveByte_of_part (s := s) (x := 0xA5#8) bs b [] (by simpa using hlen)
  rw [setHostRx_self h] at hrest
  have hfirst := receiveByte_of_part (s := s) (x := 0xA5#8) (xs := []) (fun he => absurd he hhigh) rfl
  have hsecond := receiveByte_of_part (s := s) (xs := [high]) (fun he => absurd he hlow) hpart
  rw [List.foldl_cons, List.foldl_cons, List.foldl_cons, receiveByte_start h, hfirst, List.nil_append, hsecond]
  exact hrest

/-! ### A frame received whole -/

/-- A whole frame is checked by its length and its check, and its request is judged (R175, R186). -/
theorem checkHostFrame_eq {high low : Byte} {body : List Byte} {n : Nat} (hn : n = high.toNat * 256 + low.toNat)
    (hlen : body.length = n + 2) {r : Request}
    (hr : r = ⟨fieldAt body 0 1, fieldAt body 1 2, (body.drop 3).take (n - 3)⟩) :
    s.checkHostFrame (0xA5#8 :: high :: low :: body) =
      if 3 ≤ n ∧ n ≤ 134 ∧ body.drop n = wordBytes (crcBytes (high :: low :: body.take n)) then
        s.judge r.kind r.tag (r.payload.length == requiredLength r.kind r.payload) (readRequest r)
      else s.badFrame := by
  have hlength : fieldAt (0xA5#8 :: high :: low :: body) 1 2 = n := (fieldValue_pair high low).trans hn.symm
  have hall : (0xA5#8 :: high :: low :: body).length = n + 5 := by simp [hlen]
  subst hr
  rw [checkHostFrame, hlength, hall]
  have hcheck : n + 5 - 2 = n + 3 := by omega
  have hcovered : n + 5 - 3 = n + 2 := by omega
  have hpayload : n + 5 - 8 = n - 3 := by omega
  rw [hcheck, hcovered, hpayload]
  rfl

end State
end Sys2Proof.Machine
end

section
/-! Host frames on the line: a frame that fails, a request's frame as it is checked, and a code that no row carries (R175 to
R177, R186, R187). -/

namespace Sys2Proof.Machine

/-! ### Frames that fail -/

theorem HostPort.push_with_rx (p : HostPort) (a : Answer) (rx : List Byte) :
    { p.push a with rx := rx } = ({ p with rx := rx } : HostPort).push a := by
  unfold HostPort.push
  cases p.line <;> rfl

namespace State

variable {s : State}

/-- The state after a failed frame, with what the receive buffer then holds: BAD-FRAME at once at an idle port, and owed
beside a request in service (R175, R177). -/
def frameFailed (s : State) (rx : List Byte) : State :=
  match s.port.service with
  | none => { s with
      attention := s.attention.raise (.port .badFrame)
      port := ({ s.port with rx := rx } : HostPort).push ⟨.plain, 0, 0, .badFrame, []⟩ }
  | some _ => { s with
      attention := s.attention.raise (.port .badFrame)
      port := { s.port with
        rx := rx
        owed := if s.port.owed.length < 16 then s.port.owed ++ [⟨0, 0, .badFrame, false⟩] else s.port.owed } }

theorem badFrame_setHostRx (s : State) (rx : List Byte) : (s.setHostRx rx).badFrame = s.frameFailed rx := by
  unfold frameFailed
  cases hservice : s.port.service with
  | none => exact badFrame_of_idle (s := s.setHostRx rx) hservice
  | some v => exact badFrame_of_busy (s := s.setHostRx rx) hservice

theorem badFrame_of_empty (h : s.port.rx = []) : s.badFrame = s.frameFailed [] := by
  rw [← badFrame_setHostRx, setHostRx_self h]

theorem setHostRx_frameFailed (s : State) (rx rx' : List Byte) :
    (s.frameFailed rx).setHostRx rx' = s.frameFailed rx' := by
  unfold frameFailed
  cases s.port.service with
  | none => exact congrArg (fun p => ({ s with attention := _, port := p } : State)) (HostPort.push_with_rx _ _ rx')
  | some v => rfl

/-- Quiet on the line fails a frame in part (R175). -/
theorem execHostFrameCutOff_of_part (h : s.port.rx ≠ []) : exec .hostFrameCutOff s = .next (s.frameFailed []) := by
  show execHostFrameCutOff s = _
  unfold execHostFrameCutOff
  split
  · exact absurd ‹_› h
  · rw [badFrame_setHostRx]

/-- A start byte in a length position fails the frame in part and begins another (R175). -/
theorem execHostFrameCheck_cut (h : s.port.rx.length = 1 ∨ s.port.rx.length = 2) :
    exec (.hostFrameCheck [0xA5#8]) s = .next (s.frameFailed [0xA5#8]) := by
  show Host.Outcome.next (s.receiveByte 0xA5#8) = _
  rw [receiveByte_cut h, badFrame_setHostRx, setHostRx_frameFailed]

/-- A whole frame of an impossible length or a wrong check fails (R175, R186). -/
theorem execHostFrameCheck_failed {high low : Byte} {body : List Byte} {n : Nat} (h : s.port.rx = [])
    (hhigh : high ≠ 0xA5#8) (hlow : low ≠ 0xA5#8) (hn : n = high.toNat * 256 + low.toNat) (hlen : body.length = n + 2)
    (hfail : n < 3 ∨ 134 < n ∨ body.drop n ≠ wordBytes (crcBytes (high :: low :: body.take n))) :
    exec (.hostFrameCheck (0xA5#8 :: high :: low :: body)) s = .next (s.frameFailed []) := by
  have hcheck : ¬ (3 ≤ n ∧ n ≤ 134 ∧ body.drop n = wordBytes (crcBytes (high :: low :: body.take n))) := by
    rintro ⟨hleast, hmost, hcrc⟩
    rcases hfail with hfail | hfail | hfail
    · omega
    · omega
    · exact hfail hcrc
  rw [execHostFrameCheck_of_frame h hhigh hlow (hlen.trans (congrArg (· + 2) hn)), checkHostFrame_eq hn hlen rfl,
    if_neg hcheck, badFrame_of_empty h]

end State

/-! ### The frame of a request -/

namespace Request

variable {r : Request} {s : State}

/-- The two bytes of the length field of a request's frame (R186). -/
def lengthHigh (r : Request) : Byte := BitVec.ofNat 8 ((3 + r.payload.length) / 256)
def lengthLow (r : Request) : Byte := BitVec.ofNat 8 (3 + r.payload.length)

/-- The kind, tag and payload of a request's frame, which its length field counts (R186). -/
def counted (r : Request) : List Byte := field1 r.kind ++ (field2 r.tag ++ r.payload)

/-- The bytes of a request's frame after its length field (R186). -/
def body (r : Request) : List Byte := r.counted ++ wordBytes (crcBytes r.covered)

theorem counted_length (r : Request) : r.counted.length = 3 + r.payload.length := by
  simp only [counted, field1, field2, List.length_append, List.length_cons, List.length_nil]
  omega

theorem covered_eq (r : Request) : r.covered = r.lengthHigh :: r.lengthLow :: r.counted := by
  simp [covered, counted, field2, lengthHigh, lengthLow]

theorem frame_eq (r : Request) : r.frame = 0xA5#8 :: r.lengthHigh :: r.lengthLow :: r.body := by
  rw [frame, List.cons_append, body, covered_eq]
  rfl

theorem body_length (r : Request) : r.body.length = 3 + r.payload.length + 2 := by
  rw [body, List.length_append, counted_length]
  rfl

theorem body_take (r : Request) : r.body.take (3 + r.payload.length) = r.counted := List.take_left' r.counted_length

theorem body_drop (r : Request) : r.body.drop (3 + r.payload.length) = wordBytes (crcBytes r.covered) :=
  List.drop_left' r.counted_length

/-- The request is read back from the bytes of its frame (R186). -/
theorem body_read (hkind : r.kind < 256) (htag : r.tag < 65536) :
    r = ⟨fieldAt r.body 0 1, fieldAt r.body 1 2, (r.body.drop 3).take (3 + r.payload.length - 3)⟩ := by
  have hpayload : (r.body.drop 3).take (3 + r.payload.length - 3) = r.payload := by
    rw [Nat.add_sub_cancel_left]
    exact List.take_left
  have hkind : fieldAt r.body 0 1 = r.kind := fieldValue_field1 hkind
  have htag : fieldAt r.body 1 2 = r.tag := fieldValue_field2 htag
  rw [hpayload, hkind, htag]

theorem lengthHigh_eq_zero (h : r.payload.length ≤ 131) : r.lengthHigh = 0#8 := by
  rw [lengthHigh, show (3 + r.payload.length) / 256 = 0 by omega]

theorem toNat_lengthLow (h : r.payload.length ≤ 131) : r.lengthLow.toNat = 3 + r.payload.length :=
  toNat_ofNat_byte (by omega)

/-- No length that a request's frame can have looks like a start byte (R175, R186). -/
theorem lengthLow_ne_start (h : r.payload.length ≤ 131) : r.lengthLow ≠ 0xA5#8 := fun he => by
  have hvalue : r.lengthLow.toNat = 165 := congrArg BitVec.toNat he
  rw [toNat_lengthLow h] at hvalue
  omega

theorem length_field (h : r.payload.length ≤ 131) :
    3 + r.payload.length = r.lengthHigh.toNat * 256 + r.lengthLow.toNat := by
  rw [lengthHigh_eq_zero h, toNat_lengthLow h]
  exact (Nat.zero_add _).symm

/-- The frame of a request on a line with no frame in part passes its check, and the request is judged (R175, R176,
R186). -/
theorem execHostFrameCheck_frame (hrx : s.port.rx = []) (hkind : r.kind < 256) (htag : r.tag < 65536)
    (hlen : r.payload.length ≤ 131) : exec (.hostFrameCheck r.frame) s =
      .next (s.judge r.kind r.tag (r.payload.length == requiredLength r.kind r.payload) (readRequest r)) := by
  have hhigh : r.lengthHigh ≠ 0xA5#8 := by
    rw [lengthHigh_eq_zero hlen]
    decide
  have hbody : r.body.length = r.lengthHigh.toNat * 256 + r.lengthLow.toNat + 2 :=
    r.body_length.trans (congrArg (· + 2) (length_field hlen))
  have hcheck : r.body.drop (3 + r.payload.length) =
      wordBytes (crcBytes (r.lengthHigh :: r.lengthLow :: r.body.take (3 + r.payload.length))) := by
    rw [body_drop, body_take, covered_eq]
  rw [frame_eq, State.execHostFrameCheck_of_frame hrx hhigh (lengthLow_ne_start hlen) hbody,
    State.checkHostFrame_eq (length_field hlen) r.body_length (body_read hkind htag),
    if_pos ⟨by omega, by omega, hcheck⟩]

/-! ### Codes of no row -/

/-- The request is an OPEN of no kind, a PRIORITY of no form or a CONFIG-REGION of no operation (R187; log 12). -/
def Unread (r : Request) : Prop :=
  r.kind = 4 ∧ (∃ k, r.payload = [k] ∧ k ≠ 1 ∧ k ≠ 2) ∨
    r.kind = 17 ∧ (∃ form cls, r.payload = [form, cls] ∧ form ≠ 1 ∧ form ≠ 2 ∧ form ≠ 3) ∨
    r.kind = 3 ∧ r.payload.length = 8 ∧ ∃ id op rest, r.payload = id :: op :: rest ∧ op ≠ 0 ∧ op ≠ 1

/-- A code of no row comes in a request of right length, which no row stands for (R187; log 12). -/
theorem Unread.read (h : r.Unread) :
    (1 ≤ r.kind ∧ r.kind ≤ 20) ∧ r.payload.length = requiredLength r.kind r.payload ∧ readRequest r = none := by
  obtain ⟨kind, tag, payload⟩ := r
  rcases h with ⟨hkind, k, hpayload, hcold, hjoin⟩ | ⟨hkind, form, cls, hpayload, hfixed, hrotating, hlowest⟩ |
    ⟨hkind, hlen, id, op, rest, hpayload, hdefine, hclear⟩
  · subst hkind hpayload
    exact ⟨(by decide : 1 ≤ 4 ∧ 4 ≤ 20), rfl,
      (if_neg (fieldValue_byte_ne hcold)).trans (if_neg (fieldValue_byte_ne hjoin))⟩
  · subst hkind hpayload
    exact ⟨(by decide : 1 ≤ 17 ∧ 17 ≤ 20), rfl,
      (if_neg (fieldValue_byte_ne hfixed)).trans
        ((if_neg (fieldValue_byte_ne hrotating)).trans (if_neg (fieldValue_byte_ne hlowest)))⟩
  · subst hkind hpayload
    exact ⟨(by decide : 1 ≤ 3 ∧ 3 ≤ 20), hlen,
      (if_neg (fieldValue_byte_ne hdefine)).trans (if_neg (fieldValue_byte_ne hclear))⟩

end Request

/-! ### The frames checked -/

/-- Settles O11: the frame is read back, and the request passes every check of an idle port. -/
theorem requestFrameTaken : Obligations.RequestFrameTaken := by
  intro c r s hwf hc hlen hservice hrx hsweep
  obtain ⟨hleast, hmost, htag, hfits⟩ := requestOf_carried c hwf r hc
  rw [Request.execHostFrameCheck_frame hrx (by omega) htag hlen, readRequest_requestOf hwf hc,
    beq_iff_eq.mpr hfits, State.judge_of_idle hservice, State.judgeIdle_taken ⟨hleast, hmost⟩ hsweep]
  rfl

/-- Settles O12: the three ways a frame fails, and a frame that passes by the checks of its request in their order. -/
theorem cutOffFrameAnswered : Obligations.CutOffFrameAnswered := by
  refine ⟨fun s => ⟨State.execHostFrameCutOff_of_part, State.execHostFrameCheck_cut,
    fun high low body hrx hhigh hlow hlen hfail => State.execHostFrameCheck_failed hrx hhigh hlow rfl hlen hfail⟩,
    fun s r hrx hkind htag hlen => ?_⟩
  have hchecked := Request.execHostFrameCheck_frame hrx hkind htag hlen
  refine ⟨fun v hservice => ?busy, fun hservice hknown => ?badKind, fun hservice hknown hfits => ?badLength,
    fun hservice hknown hfits hsweep hstatus => ?sweep, fun hservice hsweep hunread => ?refused⟩
  case busy =>
    rw [hchecked, State.judge_of_busy hservice]
    rfl
  case badKind =>
    rw [hchecked, State.judge_of_idle hservice, State.judgeIdle_badKind hknown]
    rfl
  case badLength =>
    rw [hchecked, State.judge_of_idle hservice, beq_eq_false_iff_ne.mpr hfits, State.judgeIdle_badLength hknown]
    rfl
  case sweep =>
    rw [hchecked, State.judge_of_idle hservice, beq_iff_eq.mpr hfits, State.judgeIdle_busy hknown hsweep hstatus]
    rfl
  case refused =>
    obtain ⟨hknown, hfits, hnone⟩ := Request.Unread.read hunread
    rw [hchecked, State.judge_of_idle hservice, beq_iff_eq.mpr hfits, hnone, State.judgeIdle_refused hknown hsweep]

end Sys2Proof.Machine
end

section
/-! Request rows that the port turns away, and the ends of answers (R174, R176 to R178, R185). -/

namespace Sys2Proof.Machine

/-! ### Requests turned away -/

/-- A request row is the event of its block behind the port's checks (R176, R177; log 3). -/
theorem exec_of_requestOf {c : Instr} {r : Request} (h : requestOf c = some r) :
    ∃ own : State → State, ∀ s, exec c s = .next (s.request c own) := by
  cases c with
  | powerOn | startUpSweepEnd | restartInput | oneBitDisturbance | silentDisturbance | hostFrameCheck | hostFrameCutOff
    | replyEnd | openMappingEnd | openColdZeroFillWrite | openColdCompletion | hostReadWord | hostWriteWord | gateRead |
    lockAdvance | patrolStep | moveTake | moveStep | windowExpiry | deadlineExpiry | halfPeriodExpiry | linkFrameCheck |
    linkReceiveCutOff | silenceTimerExpiry | sendStep | finalSendStep | lockImageQueued | syncMarkQueued | transmitEnd |
    idleFill | linkTimeout =>
    cases h
  | _ => exact ⟨_, fun _ => rfl⟩

namespace State

variable {s : State} {c : Instr} {r : Request}

/-- The frame of a well-formed request is judged as it arrives (R176; log 3). -/
theorem arrive_of_requestOf (hwf : c.wf = true) (hc : requestOf c = some r) (hlen : r.payload.length ≤ 131) :
    s.arrive c = s.judge r.kind r.tag true (some c) := by
  obtain ⟨-, -, -, hfits⟩ := requestOf_carried c hwf r hc
  rw [arrive, hc]
  dsimp only []
  rw [if_neg (Nat.not_lt.mpr hlen), beq_iff_eq.mpr hfits]

/-- A request that its frame's arrival does not hand to its block has no other effect (R176, R177). -/
theorem exec_of_not_handed (hc : requestOf c = some r) (hbefore : s.hasHanded c = false)
    (hafter : (s.arrive c).hasHanded c = false) : exec c s = .next (s.arrive c) := by
  obtain ⟨own, hown⟩ := exec_of_requestOf hc
  rw [hown, request, if_neg (by rw [hbefore]; exact Bool.false_ne_true)]
  dsimp only []
  rw [if_neg (by rw [hafter]; exact Bool.false_ne_true)]

theorem hasHanded_of_none (h : s.port.service = none) (c : Instr) : s.hasHanded c = false := by
  rw [hasHanded, h]

theorem hasHanded_of_other {v : InService} (h : s.port.service = some v) (hv : v.handed ≠ some c) :
    s.hasHanded c = false := by
  rw [hasHanded, h]
  exact beq_eq_false_iff_ne.mpr hv

/-- A request beside one in service is owed BUSY and does nothing else (R177). -/
theorem exec_of_busy {v : InService} (hwf : c.wf = true) (hc : requestOf c = some r) (hlen : r.payload.length ≤ 131)
    (h : s.port.service = some v) (hv : v.handed ≠ some c) : exec c s = .next (s.owe r.kind r.tag .busy .busy) := by
  have harrive : s.arrive c = s.owe r.kind r.tag .busy .busy := by
    rw [arrive_of_requestOf hwf hc hlen, judge_of_busy h]
  rw [exec_of_not_handed hc (hasHanded_of_other h hv) (by rw [harrive]; exact hasHanded_of_other h hv), harrive]

/-- A request in the sweep, a STATUS apart, is answered BUSY at once and does nothing else (R176). -/
theorem exec_of_sweeping (hwf : c.wf = true) (hc : requestOf c = some r) (hlen : r.payload.length ≤ 131)
    (h : s.port.service = none) (hsweep : s.sweeping = true) (hstatus : r.kind ≠ 1) :
    exec c s = .next (s.answerNow r.kind r.tag .busy) := by
  obtain ⟨hleast, hmost, -, -⟩ := requestOf_carried c hwf r hc
  have harrive : s.arrive c = s.answerNow r.kind r.tag .busy := by
    rw [arrive_of_requestOf hwf hc hlen, judge_of_idle h, judgeIdle_busy ⟨hleast, hmost⟩ hsweep hstatus]
  have hidle : (s.answerNow r.kind r.tag .busy).port.service = none := (HostPort.push_service _ _).trans h
  rw [exec_of_not_handed hc (hasHanded_of_none h c) (by rw [harrive]; exact hasHanded_of_none hidle c), harrive]

end State

/-- Settles O13: the arrival of the frame is all that the row does, beside a request in service and in the sweep. -/
theorem requestsTurnedAway : Obligations.RequestsTurnedAway := fun _ _ _ hwf hc hlen =>
  ⟨fun _ => State.exec_of_busy hwf hc hlen, State.exec_of_sweeping hwf hc hlen⟩

/-! ### The ends of answers -/

namespace HostPort

variable {p : HostPort}

theorem next_of_due {o : OwedAnswer} (h : p.owed.find? OwedAnswer.due = some o) :
    p.next = { p with line := some ⟨.owed, o.kind, o.tag, o.outcome, []⟩ } := by
  rw [next, h]

theorem next_of_ready {a : Answer} {as : List Answer} (h : p.owed.find? OwedAnswer.due = none) (hready : p.ready = a :: as) :
    p.next = { p with line := some a, ready := as } := by
  rw [next, h, hready]

theorem next_of_nothing (h : p.owed.find? OwedAnswer.due = none) (hready : p.ready = []) :
    p.next = { p with line := none } := by
  rw [next, h, hready]

theorem push_of_quiet (a : Answer) (h : p.line = none) : p.push a = { p with line := some a } := by
  rw [push, h]

theorem push_of_busy (a : Answer) (h : p.line ≠ none) : p.push a = { p with ready := p.ready ++ [a] } := by
  rw [push_eq, if_neg (by simpa using h)]

end HostPort

section

variable {s : State} {a : Answer}

theorem execReplyEnd_reply (h : s.port.line = some a) (hrole : a.role = .reply) : exec .replyEnd s = .next s.replyEnded := by
  show execReplyEnd s = _
  simp only [execReplyEnd, h, hrole]

theorem execReplyEnd_owed (h : s.port.line = some a) (hrole : a.role = .owed) : exec .replyEnd s = .next s.owedEnded := by
  show execReplyEnd s = _
  simp only [execReplyEnd, h, hrole]

theorem execReplyEnd_plain (h : s.port.line = some a) (hrole : a.role = .plain) : exec .replyEnd s = .next s.plainEnded := by
  show execReplyEnd s = _
  simp only [execReplyEnd, h, hrole]

/-- The end of the reply of a request that is no RESTART frees the port (R174). -/
theorem State.replyEnded_of_other {v : InService} (h : s.port.service = some v) (hkind : v.kind ≠ 20) :
    s.replyEnded = { s with port := HostPort.next ({ s.port with line := none } : HostPort).replyGone } := by
  unfold State.replyEnded
  extract_lets isRestart port s1 s2
  have hother : isRestart = false := by
    dsimp only [isRestart]
    rw [h]
    exact beq_eq_false_iff_ne.mpr hkind
  have hs2 : s2 = { s1 with port := s1.port.replyGone } := if_neg (by rw [hother]; exact Bool.false_ne_true)
  rw [hs2]

/-- The end of the reply of a RESTART is followed by the warm restart (R185). -/
theorem State.replyEnded_of_restart {v : InService} (h : s.port.service = some v) (hkind : v.kind = 20) :
    s.replyEnded =
      { State.warmRestart { s with port := { s.port with line := none } } with
        port := (HostPort.restarted { s.port with line := none }).next } := by
  unfold State.replyEnded
  extract_lets isRestart port s1 s2
  have hrestart : isRestart = true := by
    dsimp only [isRestart]
    rw [h]
    exact beq_iff_eq.mpr hkind
  have hs2 : s2 = s1.warmRestart := if_pos hrestart
  rw [hs2, State.warmRestart_port]

end

/-- Settles O14: each end of an answer by its role, the warm restart by what it leaves of every block, and the choice of the
next answer case by case. -/
theorem replyEndFreesPort : Obligations.ReplyEndFreesPort := by
  refine ⟨fun s a v hline hrole hservice hkind => ?other, fun s a => execReplyEnd_owed, fun s a => execReplyEnd_plain,
    fun s a v hline hrole hservice hkind => ?restart, fun p o => HostPort.next_of_due, fun p a as => HostPort.next_of_ready,
    fun p a => ⟨HostPort.push_of_quiet a, HostPort.push_of_busy a⟩, fun p => HostPort.next_of_nothing⟩
  case other =>
    rw [execReplyEnd_reply hline hrole, State.replyEnded_of_other hservice hkind]
    rfl
  case restart =>
    exact ⟨_, execReplyEnd_reply hline hrole, by
      rw [State.replyEnded_of_restart hservice hkind]
      exact ⟨State.warmRestarted_warmRestart { s with port := { s.port with line := none } }, rfl⟩⟩

end Sys2Proof.Machine
end

section
/-! READ and WRITE at their blocks: the argument check, the pages of a run, and the page checks in their order (R182, R183,
R187). -/

namespace Sys2Proof.Machine

/-! ### The run -/

theorem runFits_iff {address count : Nat} :
    runFits address count = true ↔ (1 ≤ count ∧ count ≤ 64) ∧ address + count ≤ 30720 := by
  simp only [runFits, Bool.and_eq_true, decide_eq_true_eq]
  omega

/-- The pages of a run of at most 64 addresses are one page, or two that follow each other (R182). -/
theorem runPages_cases {address count : Nat} (hleast : 1 ≤ count) (hmost : count ≤ 64) :
    (address + count - 1) / 256 = address / 256 ∧ runPages address count = [address / 256] ∨
      (address + count - 1) / 256 = address / 256 + 1 ∧ runPages address count = [address / 256, address / 256 + 1] := by
  have hlast : (address + count - 1) / 256 = address / 256 ∨ (address + count - 1) / 256 = address / 256 + 1 := by omega
  unfold runPages
  dsimp only []
  rcases hlast with hone | htwo
  · exact .inl ⟨hone, if_pos hone.symm⟩
  · exact .inr ⟨htwo, by rw [htwo]; exact if_neg (Nat.ne_of_lt (Nat.lt_succ_self _))⟩

theorem runPages_pairwise {address count : Nat} (hleast : 1 ≤ count) (hmost : count ≤ 64) :
    (runPages address count).Pairwise (· < ·) := by
  rcases runPages_cases (address := address) hleast hmost with ⟨-, hpages⟩ | ⟨-, hpages⟩
  · rw [hpages]
    exact List.pairwise_singleton _ _
  · rw [hpages]
    exact List.pairwise_pair.mpr (Nat.lt_succ_self _)

/-- The pages of a run are those that hold an address of it (R182). -/
theorem mem_runPages_iff {address count page : Nat} (hleast : 1 ≤ count) (hmost : count ≤ 64) :
    page ∈ runPages address count ↔ ∃ a, address ≤ a ∧ a < address + count ∧ a / 256 = page := by
  constructor
  · intro hmem
    have hends : page = address / 256 ∨ page = (address + count - 1) / 256 := by
      rcases runPages_cases (address := address) hleast hmost with ⟨-, hpages⟩ | ⟨hlast, hpages⟩
      · rw [hpages, List.mem_singleton] at hmem
        exact .inl hmem
      · rw [hpages, List.mem_pair] at hmem
        rwa [hlast]
    rcases hends with rfl | rfl
    · exact ⟨address, le_rfl, by omega, rfl⟩
    · exact ⟨address + count - 1, by omega, by omega, rfl⟩
  · rintro ⟨a, hfirst, hlast, rfl⟩
    rcases runPages_cases (address := address) hleast hmost with ⟨hone, hpages⟩ | ⟨htwo, hpages⟩
    · rw [hpages, List.mem_singleton]
      omega
    · rw [hpages, List.mem_pair]
      omega

/-! ### The page checks -/

theorem State.pageRefusal_eq (s : State) (reading : Bool) (page : Nat) : s.pageRefusal reading page =
    if (s.page page).mapped = false then some .notMapped
    else if s.isVital page = true ∧ s.inService = false then some .wrongMode
    else if (s.page page).isRestoring = true then some .wrongMode
    else if reading = true ∧ (s.page page).isPoisoned = true then some .unreadable
    else none := by
  simp only [State.pageRefusal, Bool.not_eq_true', Bool.and_eq_true]

/-- The page checks do not look at the host port. -/
theorem State.runRefusal_inHand (s : State) (kind tag : Nat) (reading : Bool) (address count : Nat) :
    (s.inHand kind tag).runRefusal reading address count = s.runRefusal reading address count := rfl

theorem refusalPayload_read (o : ReplyOutcome) : refusalPayload true o = if o = .unreadable then [0] else [] := by
  cases o <;> rfl

theorem refusalPayload_write (o : ReplyOutcome) : refusalPayload false o = if o = .wrongMode then [0] else [] := by
  cases o <;> rfl

/-! ### READ -/

section

variable {s : State} {tag address count : Nat}

theorem execRead_given (h : s.given 6 tag (.read tag address count)) :
    exec (.read tag address count) s = .next ((s.inHand 6 tag).readEvent address count) :=
  congrArg Host.Outcome.next (State.request_given (payload := field2 address ++ field1 count)
    (State.readEvent address count) rfl (by decide) (by simp [field1, field2]) rfl h)

theorem execRead_badArgument (h : s.given 6 tag (.read tag address count)) (hrun : ¬ runFits address count = true) :
    exec (.read tag address count) s = .next (s.answered 6 tag .badArgument []) := by
  rw [execRead_given h, State.readEvent, if_pos (by simpa using hrun), State.inHand_reply]

theorem execRead_refused (h : s.given 6 tag (.read tag address count)) (hrun : runFits address count = true)
    {o : ReplyOutcome} (ho : s.runRefusal true address count = some o) :
    exec (.read tag address count) s = .next (s.answered 6 tag o (if o = .unreadable then [0] else [])) := by
  rw [execRead_given h, State.readEvent, if_neg (by simpa using hrun), State.runRefusal_inHand, ho]
  dsimp only []
  rw [State.inHand_reply, refusalPayload_read]

theorem execRead_taken (h : s.given 6 tag (.read tag address count)) (hrun : runFits address count = true)
    (ho : s.runRefusal true address count = none) :
    exec (.read tag address count) s =
      .next { s with port := s.port.inHand 6 tag, run := some (.reading address count []) } := by
  rw [execRead_given h, State.readEvent, if_neg (by simpa using hrun), State.runRefusal_inHand, ho]
  rfl

/-! ### WRITE -/

variable {words : List Word}

/-- A WRITE of at most 64 words fits a frame, and goes to its block in hand (R176, R186). -/
theorem execWrite_given (h : s.given 7 tag (.write tag address count words)) (hwords : words.length = count)
    (hmost : count ≤ 64) :
    exec (.write tag address count words) s = .next ((s.inHand 7 tag).writeEvent address count words) := by
  have hlen : (field2 address ++ field1 count ++ words.flatMap wordBytes).length = 3 + 2 * count := by
    rw [List.length_append, Laws.wordBytes_length, hwords]
    rfl
  have hfits : (field2 address ++ field1 count ++ words.flatMap wordBytes).length =
      requiredLength 7 (field2 address ++ field1 count ++ words.flatMap wordBytes) := by
    show _ = 3 + 2 * fieldValue (field1 count)
    rw [hlen, fieldValue_field1 (by omega)]
  exact congrArg Host.Outcome.next (State.request_given (State.writeEvent address count words) rfl (by decide)
    (by omega) hfits h)

theorem execWrite_badArgument (h : s.given 7 tag (.write tag address count words)) (hwords : words.length = count)
    (hmost : count ≤ 64) (hrun : ¬ runFits address count = true) :
    exec (.write tag address count words) s = .next (s.answered 7 tag .badArgument []) := by
  rw [execWrite_given h hwords hmost, State.writeEvent, if_pos (by simpa using hrun), State.inHand_reply]

theorem execWrite_refused (h : s.given 7 tag (.write tag address count words)) (hwords : words.length = count)
    (hmost : count ≤ 64) (hrun : runFits address count = true) {o : ReplyOutcome}
    (ho : s.runRefusal false address count = some o) :
    exec (.write tag address count words) s = .next (s.answered 7 tag o (if o = .wrongMode then [0] else [])) := by
  rw [execWrite_given h hwords hmost, State.writeEvent, if_neg (by simpa using hrun), State.runRefusal_inHand, ho]
  dsimp only []
  rw [State.inHand_reply, refusalPayload_write]

theorem execWrite_taken (h : s.given 7 tag (.write tag address count words)) (hwords : words.length = count)
    (hmost : count ≤ 64) (hrun : runFits address count = true) (ho : s.runRefusal false address count = none) :
    exec (.write tag address count words) s =
      .next { s with port := s.port.inHand 7 tag, run := some (.writing address words 0) } := by
  rw [execWrite_given h hwords hmost, State.writeEvent, if_neg (by simpa using hrun), State.runRefusal_inHand, ho]
  rfl

end

/-- Settles O24: the pages of a run by its two ends, and READ and WRITE by their checks in order. -/
theorem readWriteChecked : Obligations.ReadWriteChecked := by
  refine ⟨fun address count hleast hmost => ⟨runPages_pairwise hleast hmost, fun page => mem_runPages_iff hleast hmost⟩,
    State.pageRefusal_eq, fun s tag address count h => ?read, fun s tag address count words h hwords => ?write⟩
  case read =>
    exact ⟨fun hbad => execRead_badArgument h fun hrun => by have := runFits_iff.mp hrun; omega,
      fun hleast hmost hend o ho => execRead_refused h (runFits_iff.mpr ⟨⟨hleast, hmost⟩, hend⟩) ho,
      fun hleast hmost hend ho => execRead_taken h (runFits_iff.mpr ⟨⟨hleast, hmost⟩, hend⟩) ho⟩
  case write =>
    exact ⟨fun hbad hmost => execWrite_badArgument h hwords hmost fun hrun => by have := runFits_iff.mp hrun; omega,
      fun hleast hmost hend o ho => execWrite_refused h hwords hmost (runFits_iff.mpr ⟨⟨hleast, hmost⟩, hend⟩) ho,
      fun hleast hmost hend ho => execWrite_taken h hwords hmost (runFits_iff.mpr ⟨⟨hleast, hmost⟩, hend⟩) ho⟩

end Sys2Proof.Machine
end

section
/-! One step of the part, and the request formats read back (R186, R187). -/

namespace Sys2Proof.Machine

/-! ### Steps -/

theorem step_of_pending {c : Instr} {rest : List Instr} {s : State} (h : s.pending = c :: rest) :
    step s = exec c { s with pending := rest } := by
  unfold step
  rw [h]

theorem step_of_idle {s : State} (h : s.pending = []) : step s = .next { s with time := s.time + 1 } := by
  unfold step
  rw [h]

/-- Settles O1: the two branches of a step. -/
theorem stepRunsFrontCommand : Obligations.StepRunsFrontCommand :=
  ⟨fun _ _ _ => step_of_pending, fun _ => step_of_idle⟩

/-! ### Payload lengths -/

/-- The payload length of a kind other than WRITE is fixed (R187). -/
theorem requiredLength_of_fixed {kind : Nat} (hleast : 1 ≤ kind) (hmost : kind ≤ 20) (hwrite : kind ≠ 7)
    (payload : List Byte) :
    requiredLength kind payload =
      [0, 14, 8, 1, 0, 3, 0, 3, 1, 4, 6, 1, 2, 0, 1, 1, 2, 2, 0, 0].getD (kind - 1) 0 := by
  rcases Nat.lt_or_gt_of_ne hwrite with hbelow | habove
  · interval_cases kind <;> rfl
  · interval_cases kind <;> rfl

/-- The payload length of a WRITE follows from its count, its third byte (R187). -/
theorem requiredLength_write (a b count : Byte) (words : List Byte) :
    requiredLength 7 (a :: b :: count :: words) = 3 + 2 * count.toNat :=
  congrArg (fun n => 3 + 2 * n) (fieldValue_byte count)

/-- A WRITE too short to hold a count is required to have none (R187). -/
theorem requiredLength_write_short {payload : List Byte} (h : payload.length ≤ 2) : requiredLength 7 payload = 3 := by
  show 3 + 2 * fieldValue ((payload.drop 2).take 1) = 3
  rw [List.drop_of_length_le h]
  rfl

/-- Settles O10: the requests read back, and the lengths of R187's table. -/
theorem requestRoundTrip : Obligations.RequestRoundTrip := by
  refine ⟨fun c r hwf hc => ?_,
    fun _ payload hleast hmost hwrite => requiredLength_of_fixed hleast hmost hwrite payload, requiredLength_write,
    fun _ => requiredLength_write_short⟩
  obtain ⟨hleast, hmost, -, hlength⟩ := requestOf_carried c hwf r hc
  exact ⟨readRequest_requestOf hwf hc, hlength, hleast, hmost⟩

end Sys2Proof.Machine
end

section
/-! The requests that report: STATUS, FRAMES and POISON answer from the state (R133, R179, R184, R187, R188). -/

namespace Sys2Proof.Machine

/-! ### Sets of classes as bytes -/

/-- The classes below `n` that satisfy `f` are the bits below `n` of their byte (R187). -/
theorem getLsbD_foldl_classes (f : Nat → Bool) (n : Nat) {k : Nat} (hk : k < 8) :
    ((List.range n).foldl (fun (b : Byte) k => if f k then b ||| (1#8 <<< k) else b) 0).getLsbD k =
      (decide (k < n) && f k) := by
  induction n with
  | zero => simp
  | succ n ih =>
    have hbit : (1#8 <<< n).getLsbD k = decide (k = n) := by
      rw [← BitVec.twoPow_eq, BitVec.getLsbD_twoPow, ← Bool.decide_and]
      exact decide_eq_decide.mpr ⟨fun h => h.2.symm, fun h => ⟨h ▸ hk, h.symm⟩⟩
    rw [List.range_succ, List.foldl_append, List.foldl_cons, List.foldl_nil]
    by_cases hkn : k = n
    · subst hkn
      split <;> simp_all
    · have hlt : k < n + 1 ↔ k < n := by omega
      split <;> simp only [BitVec.getLsbD_or, ih, hbit, hkn, hlt, decide_false, Bool.or_false]

theorem Attention.getLsbD_byteOf (a : Attention) (f : ClassRecord → Bool) {k : Nat} (hk : k < 8) :
    (a.byteOf f).getLsbD k = f (a.cls k) := by
  rw [Attention.byteOf, getLsbD_foldl_classes (fun k => f (a.cls k)) 8 hk, decide_eq_true hk, Bool.true_and]

/-! ### The requests -/

section Requests

variable {s : State} {tag : Nat}

theorem execStatus_given (h : s.given 1 tag (.status tag)) :
    exec (.status tag) s = .next (s.answered 1 tag .ok s.statusBytes) := by
  have hrequest : s.request (.status tag) State.statusEvent = (s.inHand 1 tag).statusEvent :=
    State.request_given State.statusEvent rfl (by decide) (by decide) rfl h
  exact congrArg Host.Outcome.next (hrequest.trans (State.inHand_reply _ _ _ _ _))

theorem execFrames_given {first count : Nat} (h : s.given 18 tag (.frames tag first count)) :
    exec (.frames tag first count) s = .next ((s.inHand 18 tag).framesEvent first count) :=
  congrArg Host.Outcome.next
    (State.request_given (State.framesEvent first count) rfl (by decide) (Nat.le_of_ble_eq_true rfl) rfl h)

theorem execPoison_given (h : s.given 19 tag (.poison tag)) :
    exec (.poison tag) s =
      .next (s.answered 19 tag .ok (field1 s.poison.length ++ s.poison.flatMap PoisonEntry.bytes)) := by
  have hrequest : s.request (.poison tag) State.poisonEvent = (s.inHand 19 tag).poisonEvent :=
    State.request_given State.poisonEvent rfl (by decide) (by decide) rfl h
  exact congrArg Host.Outcome.next (hrequest.trans (State.inHand_reply _ _ _ _ _))

theorem execFrames_ok {first count : Nat} (h : s.given 18 tag (.frames tag first count)) (hfirst : first ≤ 127)
    (hleast : 1 ≤ count) (hmost : count ≤ 128) (hend : first + count ≤ 128) :
    exec (.frames tag first count) s = .next (s.answered 18 tag .ok
      (field1 count ++ (List.range count).flatMap fun k => (s.frame (first + k)).bytes (first + k))) := by
  rw [execFrames_given h, State.framesEvent, if_neg (by omega), State.inHand_reply]
  rfl

theorem execFrames_badArgument {first count : Nat} (h : s.given 18 tag (.frames tag first count))
    (hout : 127 < first ∨ count = 0 ∨ 128 < count ∨ 128 < first + count) :
    exec (.frames tag first count) s = .next (s.answered 18 tag .badArgument []) := by
  rw [execFrames_given h, State.framesEvent, if_pos hout, State.inHand_reply]

end Requests

/-! ### The parts of the STATUS block -/

theorem RegionClass.code_eq_ite (c : RegionClass) : c.code = if c = .vital then 1 else 2 := by cases c <;> rfl

theorem flatMap_bothPorts (f : LinkPort → List Byte) : bothPorts.flatMap f = f .u ++ f .v := by simp [bothPorts]

/-- The ports in the order of their peers' lane numbers (R187). -/
theorem State.flatMap_portsByLane (s : State) (f : LinkPort → List Byte) :
    s.portsByLane.flatMap f = if s.peerLane .u < s.peerLane .v then f .u ++ f .v else f .v ++ f .u := by
  unfold State.portsByLane
  split <;> simp

theorem LaneConfig.bytes_length (c : LaneConfig) : c.bytes.length = 14 := rfl
theorem PeerRecord.bytes_length (lane : Nat) (p : PeerRecord) : (p.bytes lane).length = 14 := rfl
theorem State.transferBytes_length (s : State) : s.transferBytes.length = 6 := by
  unfold State.transferBytes
  split <;> rfl

/-- Eight bytes for each defined region (R187). -/
theorem length_flatMap_regions (xs : List (Nat × Region)) :
    (xs.flatMap fun x => field1 x.1 ++ field1 x.2.first ++ field1 x.2.count ++ field1 x.2.cls.code ++ field3 x.2.seed ++
      field1 x.2.state.code).length = 8 * xs.length := by
  simp [field1, field2, field3, Nat.mul_comm]

theorem State.statusBytes_length (s : State) : s.statusBytes.length = 81 + 8 * s.definedRegions.length := by
  have hpeers : (if s.peerLane .u < s.peerLane .v
      then (s.peer .u).bytes (s.peerLane .u) ++ (s.peer .v).bytes (s.peerLane .v)
      else (s.peer .v).bytes (s.peerLane .v) ++ (s.peer .u).bytes (s.peerLane .u)).length = 28 := by
    split <;> rfl
  unfold State.statusBytes
  rw [flatMap_bothPorts, s.flatMap_portsByLane]
  cases s.vote.lastVerdict <;>
  · simp only [List.length_append, hpeers, length_flatMap_regions, s.transferBytes_length, s.config.bytes_length]
    simp only [field1, field2, field3, field4, flagByte, List.length_cons, List.length_nil]

/-- Settles O15: each request's event on the state with the request in hand, and the STATUS block group by group. -/
theorem reportingRequestsAnswer : Obligations.ReportingRequestsAnswer := by
  refine ⟨fun s tag => execStatus_given, fun s tag first count => execFrames_ok,
    fun s tag first count => execFrames_badArgument, fun s tag => execPoison_given, State.statusBytes_length,
    fun s => rfl, fun s => ?_⟩
  refine ⟨s.attention.byteOf ClassRecord.pending, s.attention.byteOf ClassRecord.inService,
    s.attention.byteOf ClassRecord.masked, fun k hk => ⟨s.attention.getLsbD_byteOf _ hk, s.attention.getLsbD_byteOf _ hk,
      s.attention.getLsbD_byteOf _ hk⟩, ?_⟩
  intro mode cause verdict c peer pool
  have hmode : codeOr 255 LaneMode.code s.lane.mode = mode := by
    dsimp only [mode]
    cases s.lane.mode with
    | none => rfl
    | some m => cases m <;> rfl
  have hcause : codeOr 0 StopCause.code s.lane.stopCause = cause := by
    dsimp only [cause]
    cases s.lane.stopCause with
    | none => rfl
    | some x => cases x <;> rfl
  have hpeer : ∀ port, (s.peer port).bytes (s.peerLane port) = peer port := fun port => by
    dsimp only [peer]
    unfold PeerRecord.bytes
    cases (s.peer port).early <;> rfl
  unfold State.statusBytes
  simp only [hmode, hcause, s.flatMap_portsByLane, hpeer, flatMap_bothPorts, RegionClass.code_eq_ite]
  unfold State.transferBytes LaneConfig.bytes
  simp only [List.append_assoc]
  cases s.serve with
  | some v =>
    dsimp only []
    cases v.phase <;> rfl
  | none =>
    cases s.join with
    | some j =>
      dsimp only []
      cases j.candidate <;> rfl
    | none => rfl

end Sys2Proof.Machine
end

section
/-! The operations of the part that write to the store keep the memory in its canonical form (log 9); that every other
operation does is part of what it keeps of the image. -/

namespace Sys2Proof.Machine
namespace State

variable {s : State}

/-- A fold of an operation that keeps the form keeps it. -/
theorem wf_foldl {α β : Type} (π : β → State) {f : β → α → β} (hf : ∀ x a, (π x).mem.wf → (π (f x a)).mem.wf)
    (l : List α) : ∀ x, (π x).mem.wf → (π (l.foldl f x)).mem.wf := by
  induction l with
  | nil => exact fun _ h => h
  | cons a l ih => exact fun x h => ih _ (hf x a h)

section Operations

variable (h : s.mem.wf)
include h

/-! ### The sweep and the disturbances -/

theorem wf_sweepOn : s.sweepOn.mem.wf := by
  unfold sweepOn
  split
  · exact h
  · exact Memory.wf_clear _ _ h

theorem wf_sweepEnded : s.sweepEnded.mem.wf := by
  unfold sweepEnded
  split
  · exact h
  · exact Memory.wf_clear _ _ h

theorem wf_disturb (frame offset : Nat) (f : Cell → Cell) : (s.disturb frame offset f).mem.wf :=
  Memory.wf_set _ _ (wf_sweepOn h)

/-! ### Words of the image -/

theorem wf_handOn (page offset : Nat) (v v' : Word) : (s.handOn page offset v v').mem.wf := by
  unfold handOn
  split <;> exact h

theorem wf_writeWord (page offset : Nat) (v : Word) : (s.writeWord page offset v).mem.wf := by
  unfold writeWord
  split
  · exact wf_handOn (wf_storeWord page offset v h) _ _ _ _
  · exact h

omit h in
theorem wf_writeRun (page : Nat) (ws : List Word) : ∀ {s : State} (offset : Nat), s.mem.wf →
    (s.writeRun page offset ws).mem.wf := by
  induction ws with
  | nil => exact fun _ h => h
  | cons w ws ih => exact fun offset h => ih (offset + 1) (wf_writeWord h page offset w)

theorem wf_hostWrite (page offset : Nat) (w : Word) : (s.hostWrite page offset w).mem.wf := by
  have hwritten : ∀ t : State, t.mem.wf → ((t.writeWord page offset w).clearPoisonWord page offset).mem.wf :=
    fun t ht => wf_writeWord ht page offset w
  unfold hostWrite
  dsimp only []
  split
  · exact hwritten _ ((s.imageKept_capture page).wf h)
  · exact hwritten _ h

theorem wf_writeOne (next done : Nat) (w : Word) (rest : List Word) : (s.writeOne next done w rest).mem.wf := by
  have hword := wf_hostWrite h (next / 256) (next % 256) w
  unfold writeOne
  split
  · exact (imageKept_reply _ _ _).wf h
  · dsimp only []
    split
    · exact (imageKept_reply _ _ _).wf hword
    · exact hword

theorem wf_fillPage (page : Nat) (value : Word) : (s.fillPage page value).mem.wf := by
  have hfilled := wf_writeRun page (List.replicate 256 value) 0 h
  unfold fillPage
  generalize s.writeRun page 0 (List.replicate 256 value) = s1 at hfilled ⊢
  dsimp only []
  split
  · exact (imageKept_restartPassOn _ _).wf hfilled
  · exact hfilled

theorem wf_fillEvent (page : Nat) (value : Word) : (s.fillEvent page value).mem.wf := by
  unfold fillEvent
  split
  · exact (s.imageKept_reply _ _).wf h
  · split
    · exact (s.imageKept_reply _ _).wf h
    · split
      · exact (s.imageKept_reply _ _).wf h
      · exact (imageKept_reply _ _ _).wf (wf_fillPage h page value)

/-- A PAGE frame that lands writes a run of words (R149). -/
theorem wf_pageReceived (port : LinkPort) (page offset : Nat) (words : List Word) :
    (s.pageReceived port page offset words).mem.wf := by
  have hstale : (if offset = 0 then s.putControl port (.joinAbort .stale) else s).mem.wf := by
    split
    · exact (s.imageKept_putControl _ _).wf h
    · exact h
  unfold pageReceived
  split
  · rename_i j _
    split
    · dsimp only []
      split
      · exact wf_writeRun page words offset (s := s.restartSilence j) h
      · exact (imageKept_failAttempt (s.restartSilence j) _ _).wf h
    · exact hstale
  · exact hstale

/-! ### ADOPT -/

omit h in
theorem wf_adoptWord (page offset : Nat) (x : State × AdoptCount) (hx : x.1.mem.wf) :
    (adoptWord page x offset).1.mem.wf := by
  unfold adoptWord
  dsimp only []
  split
  · exact hx
  · split
    · exact hx
    all_goals
      split
      · exact Memory.wf_set _ _ (Memory.wf_set _ _ hx)
      · exact Memory.wf_set _ _ hx

theorem wf_adoptRegion (id : Nat) (r : Region) : (s.adoptRegion id r).1.mem.wf :=
  (imageKept_restartPassOn _ _).wf (wf_foldl Prod.fst
    (fun x p hx => wf_foldl Prod.fst (fun x o => wf_adoptWord p o x) (List.range 256) x hx) r.pages (s, ⟨0, 0⟩) h)

theorem wf_adoptReply (id : Nat) : (s.adoptReply id).mem.wf := by
  unfold adoptReply
  split
  · exact (s.imageKept_reply _ _).wf h
  · split
    · exact (imageKept_reply _ _ _).wf (wf_adoptRegion h _ _)
    · exact (s.imageKept_reply _ _).wf h

/-! ### The map unit -/

theorem wf_mapAll (kind : OpenKind) : (s.mapAll kind).mem.wf := by
  refine wf_foldl (fun t => t) (fun t id ht => ?_) (List.range 16) s h
  unfold mapRegion
  split
  · refine wf_foldl (fun t => t) (fun u page hu => ?_) _ t ht
    unfold mapPage
    split
    · rename_i frame _ _
      exact wf_allocate frame page hu
    · exact hu
  · exact ht

theorem wf_abandonMove (page : Nat) : (s.abandonMove page).mem.wf := by
  rw [abandonMove_eq]
  exact h

theorem wf_warmRestart : s.warmRestart.mem.wf := by
  unfold warmRestart
  rw [selectPass_eq, movesDropped_eq]
  exact h

theorem wf_unmapSettled (page : Nat) : (s.unmapSettled page).mem.wf := by
  unfold unmapSettled
  split
  · rw [freeFrame_eq]
    exact h
  · exact h

theorem wf_unmapPage (page : Nat) : (s.unmapPage page).mem.wf := by
  unfold unmapPage
  split
  · exact wf_unmapSettled (s := (s.abandonMove page).raise _) (wf_abandonMove h page) page
  all_goals exact wf_unmapSettled h page

theorem wf_clearRegion (id : Nat) : (s.clearRegion id).mem.wf := by
  unfold clearRegion
  split
  · exact (imageKept_endPassOn _ _).wf (wf_foldl (fun t => t) (fun t page ht => wf_unmapPage ht page) _ s h)
  · exact h

theorem wf_takeMove (frame : Nat) (rest : List Nat) : (s.takeMove frame rest).mem.wf := by
  unfold takeMove
  dsimp only []
  split
  · exact h
  · rename_i page _
    split
    · split
      · exact h
      · rename_i spare _
        exact wf_allocate (s := { s with moveQueue := rest }) spare page h
    · exact h

/-- A move step writes the word under the cursor in the new frame (R35, R37). -/
theorem wf_stepMove (page : Nat) : (s.stepMove page).mem.wf := by
  unfold stepMove
  split
  · rename_i f g cursor _ _ _
    have hcopied : ((s.readCell f page cursor .move).1.setCell g cursor
        ((s.readCell f page cursor .move).1.cell f cursor).copy).mem.wf :=
      Memory.wf_set _ _ ((s.imageKept_readCell f page cursor .move).wf h)
    dsimp only []
    split
    · split <;> exact hcopied
    all_goals exact hcopied
  all_goals exact h

/-! ### Requests -/

/-- A request row keeps the form if the event of its block does (log 3). -/
theorem wf_request (c : Instr) {own : State → State} (hown : ∀ t : State, t.mem.wf → (own t).mem.wf) :
    (s.request c own).mem.wf := by
  have harrived := (s.imageKept_arrive c).wf h
  unfold request
  split
  · exact hown s.takeUp h
  · dsimp only []
    split
    · exact hown (s.arrive c).takeUp harrived
    · exact harrived

theorem wf_adoptEvent (id : Nat) : (s.adoptEvent id).mem.wf := by
  have hreply := wf_adoptReply h id
  unfold adoptEvent
  dsimp only []
  split
  · exact wf_warmRestart (s := { s.adoptReply id with port := s.port }) hreply
  · exact hreply

theorem wf_configRegionEvent (id first count code seed : Nat) :
    (s.configRegionEvent id first count code seed).mem.wf := by
  unfold configRegionEvent
  split
  · exact (s.imageKept_reply _ _).wf h
  · split
    · exact (s.imageKept_reply _ _).wf h
    · split
      · exact (imageKept_reply _ _ _).wf (wf_clearRegion h id)
      · exact (s.imageKept_reply _ _).wf h

theorem wf_configRegionClearEvent (id : Nat) : (s.configRegionClearEvent id).mem.wf := by
  unfold configRegionClearEvent
  split
  · exact (s.imageKept_reply _ _).wf h
  · split
    · exact (s.imageKept_reply _ _).wf h
    · exact (imageKept_reply _ _ _).wf (wf_clearRegion h id)

theorem wf_openTaken (kind : OpenKind) : (s.openTaken kind).mem.wf := by
  unfold openTaken
  dsimp only []
  split
  · exact (s.imageKept_reply _ _).wf h
  · exact h

theorem wf_openColdEvent : s.openColdEvent.mem.wf := by
  unfold openColdEvent
  split
  · exact wf_openTaken h _
  · exact (s.imageKept_reply _ _).wf h

theorem wf_openJoinEvent : s.openJoinEvent.mem.wf := by
  unfold openJoinEvent
  split
  · exact wf_openTaken h _
  · exact (s.imageKept_reply _ _).wf h

/-! ### OPENs, closes and replies that a warm restart can follow -/

theorem wf_joinOpened (n : Nat) : (s.joinOpened n).mem.wf := (imageKept_reply _ _ _).wf h

theorem wf_coldOpened (n : Nat) : (s.coldOpened n).mem.wf := (imageKept_reply _ _ _).wf h

theorem wf_mappingEnded (o : Opening) : (s.mappingEnded o).mem.wf := by
  have hmapped := wf_mapAll h o.kind
  unfold mappingEnded
  dsimp only []
  split
  · exact wf_warmRestart hmapped
  · have hset := (imageKept_openSettings _ o.kind fun p => (s.page p).mapped).wf hmapped
    generalize (s.mapAll o.kind).openSettings o.kind (fun p => (s.page p).mapped) = s1 at hset ⊢
    split
    · exact wf_joinOpened hset _
    · exact hset

theorem wf_readGate (a : Advance) (gate : Nat) (rest : List Nat) : (s.readGate a gate rest).mem.wf := by
  unfold readGate
  split
  · rename_i s1 _ hread
    exact (imageKept_of_readWord hread).wf h
  · rename_i s1 hread
    have hended : ({ s1 with advance := none } : State).mem.wf := (imageKept_of_readWord hread).wf h
    unfold abandonClose
    split
    · exact wf_warmRestart hended
    · exact (imageKept_reply _ _ _).wf hended

theorem wf_endAdvance (a : Advance) : (s.endAdvance a).mem.wf := by
  have hstepped := (s.imageKept_stepLocks a.values).wf h
  unfold endAdvance
  generalize s.stepLocks a.values = s1 at hstepped ⊢
  dsimp only []
  split
  · exact wf_warmRestart (s := { s1 with advance := none }) hstepped
  · split
    · exact ((imageKept_completeClose { s1 with advance := none } _).trans (imageKept_reply _ _ _)).wf hstepped
    · exact (imageKept_reply { s1 with advance := none } _ _).wf hstepped

theorem wf_replyEnded : s.replyEnded.mem.wf := by
  unfold replyEnded
  extract_lets isRestart port s1 s2
  show s2.mem.wf
  dsimp only [s2]
  split
  · exact wf_warmRestart (s := s1) h
  · exact h

/-! ### Arriving link frames -/

theorem wf_handFrame (port : LinkPort) (f : Received) : (s.handFrame port f).mem.wf := by
  cases f with
  | idleFill => exact h
  | digest sender cycle confirmed list => exact (s.imageKept_digestReceived _ _ _ _ _).wf h
  | joinAsk sender => exact (s.imageKept_joinAsked _ _).wf h
  | joinOffer pages => exact (s.imageKept_offerReceived _ _).wf h
  | joinDecline reason => exact (s.imageKept_declineReceived _ _).wf h
  | joinAbort reason => exact (s.imageKept_abortReceived _ _).wf h
  | page page offset words => exact wf_pageReceived h port page offset words
  | lockImage timers => exact (s.imageKept_imageReceived _ _).wf h
  | syncMark cycle list => exact (s.imageKept_syncReceived _ _ _).wf h

theorem wf_receiveWord (port : LinkPort) (w : Word) : (receiveWord port s w).mem.wf := by
  unfold receiveWord
  split
  · split
    · exact (s.imageKept_setLink _ _).wf h
    · exact h
  · dsimp only []
    split
    · have hcleared := (s.imageKept_setLink port { s.link port with rx := [] }).wf h
      unfold checkFrame
      split
      · exact wf_handFrame ((imageKept_heardLink _ _).wf hcleared) port _
      · exact (imageKept_checkFail _ _).wf hcleared
    · exact (s.imageKept_setLink _ _).wf h

end Operations
end State
end Sys2Proof.Machine
end

section
/-! The operations of the part leave the queue of waiting commands as it is (95). -/

namespace Sys2Proof.Machine
namespace State

variable (s : State)

/-- A fold of an operation that leaves the queue leaves it. -/
theorem foldl_pending {α β : Type} (π : β → State) {f : β → α → β} (hf : ∀ x a, (π (f x a)).pending = (π x).pending)
    (l : List α) : ∀ x, (π (l.foldl f x)).pending = (π x).pending := by
  induction l with
  | nil => exact fun _ => rfl
  | cons a l ih => exact fun x => (ih _).trans (hf x a)

/-- What a send step can change leaves the queue (R137, R142). -/
theorem SentFrom.pending {s t : State} (h : s.SentFrom t) : t.pending = s.pending := by rw [h]

/-! ### Operations whose changes are said in full -/

@[simp] theorem owe_pending (kind tag : Nat) (o : ReplyOutcome) (r : PortReason) :
    (s.owe kind tag o r).pending = s.pending := rfl
@[simp] theorem arrive_pending (c : Instr) : (s.arrive c).pending = s.pending := by rw [arrive_eq]
@[simp] theorem putControl_pending (port : LinkPort) (b : LinkBody) : (s.putControl port b).pending = s.pending := by
  rw [putControl_eq]
@[simp] theorem putBulk_pending (port : LinkPort) (b : LinkBody) : (s.putBulk port b).pending = s.pending := by
  rw [putBulk_eq]
@[simp] theorem checkFail_pending (port : LinkPort) : (s.checkFail port).pending = s.pending := by rw [checkFail_eq]
@[simp] theorem endServe_pending (r : RestoreReason) (a : Option RestoreReason) :
    (s.endServe r a).pending = s.pending := by
  rw [endServe_eq]
@[simp] theorem stopRequest_pending (c : StopCause) (id : Nat) : (s.stopRequest c id).pending = s.pending := by
  rw [stopRequest_eq]
@[simp] theorem readCell_pending (frame page offset : Nat) (src : StoreSource) :
    (s.readCell frame page offset src).1.pending = s.pending := by rw [readCell_eq]
@[simp] theorem readWord_pending (page offset : Nat) (src : StoreSource) :
    (s.readWord page offset src).1.pending = s.pending := by rw [readWord_eq]
@[simp] theorem readRun_pending (page offset n : Nat) (src : StoreSource) :
    (s.readRun page src offset n).1.pending = s.pending := (sentFrom_readRun page src n s offset).pending
@[simp] theorem writeWord_pending (page offset : Nat) (v : Word) : (s.writeWord page offset v).pending = s.pending := by
  rw [writeWord_eq]
@[simp] theorem writeRun_pending (page offset : Nat) (ws : List Word) :
    (s.writeRun page offset ws).pending = s.pending := by rw [writeRun_eq]
@[simp] theorem selectPass_pending : s.selectPass.pending = s.pending := by rw [selectPass_eq]
@[simp] theorem selectIfWaiting_pending : s.selectIfWaiting.pending = s.pending := by rw [selectIfWaiting_eq]
@[simp] theorem endPassOn_pending (id : Nat) : (s.endPassOn id).pending = s.pending := by rw [endPassOn_eq]
@[simp] theorem restartPassOn_pending (id : Nat) : (s.restartPassOn id).pending = s.pending := by rw [restartPassOn_eq]
@[simp] theorem freeFrame_pending (frame page : Nat) :
    (s.freeFrame frame page).pending = s.pending := by rw [freeFrame_eq]
@[simp] theorem abandonMove_pending (page : Nat) : (s.abandonMove page).pending = s.pending := by rw [abandonMove_eq]
@[simp] theorem movesDropped_pending : s.movesDropped.pending = s.pending := by rw [movesDropped_eq]
@[simp] theorem stepLocks_pending (values : List (Nat × Word)) : (s.stepLocks values).pending = s.pending := by
  rw [stepLocks_eq]
@[simp] theorem verdictHanded_pending (agreed : Bool) (n : Nat) : (s.verdictHanded agreed n).pending = s.pending := by
  rw [verdictHanded_eq]
@[simp] theorem decideVote_pending : s.decideVote.pending = s.pending := by rw [decideVote_eq]
@[simp] theorem closeCompleted_pending (n : Nat) : (s.closeCompleted n).pending = s.pending := by rw [closeCompleted_eq]
@[simp] theorem failAttempt_pending (r : RestoreReason) (a : Option RestoreReason) :
    (s.failAttempt r a).pending = s.pending := by rw [failAttempt_eq]
@[simp] theorem completeJoin_pending (n : Nat) : (s.completeJoin n).pending = s.pending := by rw [completeJoin_eq]
@[simp] theorem configure_pending (c : LaneConfig) : (s.configure c).pending = s.pending := by
  rw [configure_eq]
  rfl
@[simp] theorem startAttempt_pending (j : Join) (port : LinkPort) : (s.startAttempt j port).pending = s.pending :=
  putControl_pending _ _ _
@[simp] theorem restartSilence_pending (j : Join) : (s.restartSilence j).pending = s.pending := rfl
@[simp] theorem allocate_pending (frame page : Nat) : (s.allocate frame page).pending = s.pending := rfl
@[simp] theorem joinOpened_pending (n : Nat) : (s.joinOpened n).pending = s.pending := reply_pending _ _ _
@[simp] theorem coldOpened_pending (n : Nat) : (s.coldOpened n).pending = s.pending := reply_pending _ _ _

/-! ### The sweep and a warm restart -/

@[simp] theorem sweepOn_pending : s.sweepOn.pending = s.pending := by
  unfold sweepOn
  split <;> rfl

@[simp] theorem sweepEnded_pending : s.sweepEnded.pending = s.pending := by
  unfold sweepEnded
  split <;> rfl

@[simp] theorem warmRestart_pending : s.warmRestart.pending = s.pending := by simp [warmRestart]

/-! ### The host port -/

@[simp] theorem badFrame_pending : s.badFrame.pending = s.pending := by
  unfold badFrame
  split <;> simp

@[simp] theorem judge_pending (kind tag : Nat) (ok : Bool) (c : Option Instr) :
    (s.judge kind tag ok c).pending = s.pending := by
  unfold judge judgeIdle refuseCode
  repeat' split
  all_goals simp

@[simp] theorem checkHostFrame_pending (frame : List Byte) : (s.checkHostFrame frame).pending = s.pending := by
  unfold checkHostFrame
  dsimp only []
  split <;> simp

@[simp] theorem receiveByte_pending (b : Byte) : (s.receiveByte b).pending = s.pending := by
  unfold receiveByte
  dsimp only []
  repeat' split
  all_goals simp

/-- A request row leaves the queue if the event of its block does (log 3). -/
theorem request_pending (c : Instr) {own : State → State} (hown : ∀ t : State, (own t).pending = t.pending) :
    (s.request c own).pending = s.pending := by
  unfold request
  dsimp only []
  repeat' split
  all_goals simp [hown]

@[simp] theorem replyEnded_pending : s.replyEnded.pending = s.pending := by
  unfold replyEnded
  extract_lets isRestart port s1 s2
  show s2.pending = s.pending
  dsimp only [s2]
  split
  · exact warmRestart_pending s1
  · rfl

/-! ### The patrol and the map unit -/

@[simp] theorem judgePass_pending (p : Pass) (r : Region) : (s.judgePass p r).pending = s.pending := by
  unfold judgePass
  repeat' split
  all_goals simp

@[simp] theorem patrolStep_pending : s.patrolStep.pending = s.pending := by
  unfold patrolStep
  dsimp only []
  repeat' split
  all_goals simp

@[simp] theorem unmapSettled_pending (page : Nat) : (s.unmapSettled page).pending = s.pending := by
  unfold unmapSettled
  split <;> simp

@[simp] theorem unmapPage_pending (page : Nat) : (s.unmapPage page).pending = s.pending := by
  unfold unmapPage
  split <;> simp

@[simp] theorem clearRegion_pending (id : Nat) : (s.clearRegion id).pending = s.pending := by
  unfold clearRegion
  split
  · simpa [unmapRegion] using foldl_pending (fun t => t) unmapPage_pending _ s
  · rfl

@[simp] theorem takeMove_pending (frame : Nat) (rest : List Nat) : (s.takeMove frame rest).pending = s.pending := by
  unfold takeMove
  dsimp only []
  repeat' split
  all_goals simp

@[simp] theorem endMove_pending (page old new : Nat) (p r : Bool) :
    (s.endMove page old new p r).pending = s.pending := rfl

@[simp] theorem stepMove_pending (page : Nat) : (s.stepMove page).pending = s.pending := by
  unfold stepMove
  dsimp only []
  repeat' split
  all_goals simp

@[simp] theorem mapAll_pending (kind : OpenKind) : (s.mapAll kind).pending = s.pending := by
  refine foldl_pending (fun t => t) (fun t id => ?_) _ s
  unfold mapRegion
  split
  · refine foldl_pending (fun t => t) (fun t page => ?_) _ t
    unfold mapPage
    split <;> rfl
  · rfl

/-! ### The settings of an OPEN -/

@[simp] theorem settleRegion_pending (id : Nat) (r : Region) (st : RegionState) :
    (s.settleRegion id r st).pending = s.pending := by
  unfold settleRegion
  dsimp only []
  split <;> simp

@[simp] theorem openRegion_pending (kind : OpenKind) (before : Nat → Bool) (id : Nat) :
    (openRegion kind before s id).pending = s.pending := by
  unfold openRegion
  split
  · rfl
  · split
    · rw [settleRegion_pending]
      exact foldl_pending (fun t => t) (f := fun s p => s.setPage p ((s.page p).opened kind)) (fun _ _ => rfl) _ s
    · split <;> simp

@[simp] theorem openSettings_pending (kind : OpenKind) (before : Nat → Bool) :
    (s.openSettings kind before).pending = s.pending := by
  have hset := foldl_pending (fun t => t) (fun t id => t.openRegion_pending kind before id) (List.range 16) s
  unfold openSettings
  generalize (List.range 16).foldl (openRegion kind before) s = s1 at hset ⊢
  exact hset

/-! ### The donor -/

@[simp] theorem capture_pending (page : Nat) : (s.capture page).pending = s.pending := by
  have hread := s.readRun_pending page 0 256 .capture
  unfold capture
  split
  · rfl
  · split
    · split <;> rename_i heq <;> rwa [heq] at hread
    · rfl

@[simp] theorem sendStep_pending : s.sendStep.pending = s.pending := s.sentFrom_sendStep.pending
@[simp] theorem finalSendStep_pending : s.finalSendStep.pending = s.pending := s.sentFrom_finalSendStep.pending
@[simp] theorem transmitEnded_pending (port : LinkPort) : (s.transmitEnded port).pending = s.pending :=
  (s.sentFrom_transmitEnded port).pending

@[simp] theorem queueLockImage_pending : s.queueLockImage.pending = s.pending := by
  unfold queueLockImage
  repeat' split
  all_goals simp

@[simp] theorem queueSyncMark_pending : s.queueSyncMark.pending = s.pending := by
  unfold queueSyncMark
  repeat' split
  all_goals simp

@[simp] theorem judgeAsk_pending (port : LinkPort) : (s.judgeAsk port).pending = s.pending := by
  unfold judgeAsk declineAsk acceptAsk
  dsimp only []
  repeat' split
  all_goals simp

@[simp] theorem joinAsked_pending (port : LinkPort) (sender : Nat) : (s.joinAsked port sender).pending = s.pending := by
  unfold joinAsked
  repeat' split
  all_goals simp

/-! ### The receiver -/

@[simp] theorem peerHeard_pending (port : LinkPort) : (s.peerHeard port).pending = s.pending := by
  unfold peerHeard
  dsimp only []
  repeat' split
  all_goals simp

@[simp] theorem offerReceived_pending (port : LinkPort) (pages : Nat) :
    (s.offerReceived port pages).pending = s.pending := by
  unfold offerReceived
  repeat' split
  all_goals simp

@[simp] theorem declineReceived_pending (port : LinkPort) (reason : Option RestoreReason) :
    (s.declineReceived port reason).pending = s.pending := by
  unfold declineReceived
  dsimp only []
  repeat' split
  all_goals simp

@[simp] theorem abortReceived_pending (port : LinkPort) (reason : Option RestoreReason) :
    (s.abortReceived port reason).pending = s.pending := by
  unfold abortReceived
  dsimp only []
  repeat' split
  all_goals simp

@[simp] theorem pageReceived_pending (port : LinkPort) (page offset : Nat) (words : List Word) :
    (s.pageReceived port page offset words).pending = s.pending := by
  unfold pageReceived
  dsimp only []
  repeat' split
  all_goals simp

@[simp] theorem imageReceived_pending (port : LinkPort) (timers : Option (List LockTimer)) :
    (s.imageReceived port timers).pending = s.pending := by
  unfold imageReceived
  dsimp only []
  repeat' split
  all_goals simp

@[simp] theorem syncReceived_pending (port : LinkPort) (n : Nat) (list : Option DigestList) :
    (s.syncReceived port n list).pending = s.pending := by
  unfold syncReceived
  repeat' split
  all_goals simp

/-! ### Votes and closes -/

@[simp] theorem decideIfEarly_pending : s.decideIfEarly.pending = s.pending := by
  unfold decideIfEarly
  split <;> simp

@[simp] theorem digestTaken_pending (port : LinkPort) (m : Nat) (c : Bool) (l : DigestList) :
    (s.digestTaken port m c l).pending = s.pending := by
  unfold digestTaken
  dsimp only []
  repeat' split
  all_goals simp

@[simp] theorem digestReceived_pending (port : LinkPort) (sender m : Nat) (c : Option Bool) (l : Option DigestList) :
    (s.digestReceived port sender m c l).pending = s.pending := by
  unfold digestReceived
  repeat' split
  all_goals simp

@[simp] theorem completeClose_pending (n : Nat) : (s.completeClose n).pending = s.pending := by simp [completeClose]

@[simp] theorem closeEvent_pending (cycle : Nat) : (s.closeEvent cycle).pending = s.pending := by
  unfold closeEvent acceptClose
  dsimp only []
  repeat' split
  all_goals simp

@[simp] theorem abandonClose_pending : s.abandonClose.pending = s.pending := by
  unfold abandonClose
  split <;> simp

@[simp] theorem readGate_pending (a : Advance) (gate : Nat) (rest : List Nat) :
    (s.readGate a gate rest).pending = s.pending := by
  have hread := s.readWord_pending (gate / 256) (gate % 256) .gate
  unfold readGate
  split <;> rename_i heq <;> rw [heq] at hread <;> simpa using hread

@[simp] theorem endAdvance_pending (a : Advance) : (s.endAdvance a).pending = s.pending := by
  unfold endAdvance
  dsimp only []
  repeat' split
  all_goals simp

/-! ### Arriving link frames -/

@[simp] theorem heardLink_pending (port : LinkPort) : (s.heardLink port).pending = s.pending := by
  unfold heardLink
  dsimp only []
  split <;> simp

@[simp] theorem handFrame_pending (port : LinkPort) (f : Received) : (s.handFrame port f).pending = s.pending := by
  cases f <;> simp [handFrame]

@[simp] theorem receiveWord_pending (port : LinkPort) (w : Word) : (receiveWord port s w).pending = s.pending := by
  unfold receiveWord setLinkRx checkFrame
  dsimp only []
  repeat' split
  all_goals simp

@[simp] theorem linkDown_pending (port : LinkPort) : (s.linkDown port).pending = s.pending := by
  unfold linkDown
  dsimp only []
  split <;> simp

/-! ### Words of the image -/

@[simp] theorem readOne_pending (next left : Nat) (delivered : List Word) :
    (s.readOne next left delivered).pending = s.pending := by
  have hread := s.readWord_pending (next / 256) (next % 256) .read
  unfold readOne
  split <;> rename_i heq <;> rw [heq] at hread
  · split <;> simpa using hread
  · simpa using hread

@[simp] theorem hostWrite_pending (page offset : Nat) (w : Word) : (s.hostWrite page offset w).pending = s.pending := by
  unfold hostWrite
  dsimp only []
  split <;> simp

@[simp] theorem writeOne_pending (next done : Nat) (w : Word) (rest : List Word) :
    (s.writeOne next done w rest).pending = s.pending := by
  unfold writeOne
  dsimp only []
  repeat' split
  all_goals simp

@[simp] theorem fillPage_pending (page : Nat) (value : Word) : (s.fillPage page value).pending = s.pending := by
  have hfilled := s.writeRun_pending page 0 (List.replicate 256 value)
  unfold fillPage
  generalize s.writeRun page 0 (List.replicate 256 value) = s1 at hfilled ⊢
  dsimp only []
  split <;> simpa using hfilled

theorem adoptWord_pending (page offset : Nat) (x : State × AdoptCount) :
    (adoptWord page x offset).1.pending = x.1.pending := by
  unfold adoptWord
  dsimp only []
  repeat' split
  all_goals rfl

@[simp] theorem adoptRegion_pending (id : Nat) (r : Region) : (s.adoptRegion id r).1.pending = s.pending :=
  (restartPassOn_pending _ _).trans (foldl_pending Prod.fst
    (fun x p => foldl_pending Prod.fst (fun x o => adoptWord_pending p o x) _ x) r.pages (s, ⟨0, 0⟩))

/-! ### The events of the requests -/

theorem takeEvent_pending : s.takeEvent.pending = s.pending := by
  unfold takeEvent
  split <;> simp

theorem doneClassEvent_pending (cls : Nat) : (s.doneClassEvent cls).pending = s.pending := by
  unfold doneClassEvent
  repeat' split
  all_goals simp

theorem doneNoClassEvent_pending : s.doneNoClassEvent.pending = s.pending := by
  unfold doneNoClassEvent
  split <;> simp

theorem priorityEvent_pending (rotating : Bool) (lowest : Nat) :
    (s.priorityEvent rotating lowest).pending = s.pending :=
  reply_pending _ _ _

theorem setLowestEvent_pending (cls : Nat) : (s.setLowestEvent cls).pending = s.pending := by
  unfold setLowestEvent
  split
  · simp
  · exact priorityEvent_pending _ _ _

theorem configLaneEvent_pending (v : LaneValues) : (s.configLaneEvent v).pending = s.pending := by
  unfold configLaneEvent
  repeat' split
  all_goals simp

theorem configRegionEvent_pending (id first count code seed : Nat) :
    (s.configRegionEvent id first count code seed).pending = s.pending := by
  unfold configRegionEvent
  repeat' split
  all_goals simp

theorem configRegionClearEvent_pending (id : Nat) : (s.configRegionClearEvent id).pending = s.pending := by
  unfold configRegionClearEvent
  repeat' split
  all_goals simp

theorem openTaken_pending (kind : OpenKind) : (s.openTaken kind).pending = s.pending := by
  unfold openTaken
  dsimp only []
  split <;> simp

theorem openColdEvent_pending : s.openColdEvent.pending = s.pending := by
  unfold openColdEvent
  split
  · exact s.openTaken_pending _
  · simp

theorem openJoinEvent_pending : s.openJoinEvent.pending = s.pending := by
  unfold openJoinEvent
  split
  · exact s.openTaken_pending _
  · simp

theorem stopEvent_pending : s.stopEvent.pending = s.pending := by
  unfold stopEvent
  split <;> simp

theorem readEvent_pending (address count : Nat) : (s.readEvent address count).pending = s.pending := by
  unfold readEvent
  repeat' split
  all_goals simp

theorem writeEvent_pending (address count : Nat) (words : List Word) :
    (s.writeEvent address count words).pending = s.pending := by
  unfold writeEvent
  repeat' split
  all_goals simp

theorem fillEvent_pending (page : Nat) (value : Word) : (s.fillEvent page value).pending = s.pending := by
  unfold fillEvent
  repeat' split
  all_goals simp

theorem adoptEvent_pending (id : Nat) : (s.adoptEvent id).pending = s.pending := by
  unfold adoptEvent adoptReply
  dsimp only []
  repeat' split
  all_goals simp

theorem framesEvent_pending (first count : Nat) : (s.framesEvent first count).pending = s.pending := by
  unfold framesEvent
  split <;> simp

theorem lockArmEvent_pending (index code : Nat) (gate : Option Nat) (preset : Nat) :
    (s.lockArmEvent index code gate preset).pending = s.pending := by
  unfold lockArmEvent arm
  dsimp only []
  repeat' split
  all_goals simp

theorem lockCancelEvent_pending (index : Nat) : (s.lockCancelEvent index).pending = s.pending := by
  unfold lockCancelEvent cancelLock
  dsimp only []
  repeat' split
  all_goals simp

theorem lockReadEvent_pending (first count : Nat) : (s.lockReadEvent first count).pending = s.pending := by
  unfold lockReadEvent
  repeat' split
  all_goals simp [collectLocks]

@[simp] theorem mappingEnded_pending (o : Opening) : (s.mappingEnded o).pending = s.pending := by
  unfold mappingEnded
  dsimp only []
  repeat' split
  all_goals simp

end State
end Sys2Proof.Machine
end

section
/-! Every command leaves the queue of waiting commands and keeps the memory in its canonical form, and so every step
keeps the form (95; log 9). -/

namespace Sys2Proof.Machine

/-- `t` has the queue of `s`, and its memory is in canonical form where that of `s` is. -/
structure State.Steady (s t : State) : Prop where
  queue : t.pending = s.pending
  form : s.mem.wf → t.mem.wf

theorem State.Steady.refl (s : State) : s.Steady s := ⟨rfl, id⟩

/-- An operation that keeps the image keeps the form. -/
theorem State.ImageKept.steady {s t : State} (h : s.ImageKept t) (hqueue : t.pending = s.pending) :
    s.Steady t := ⟨hqueue, h.wf⟩

/-- A command that goes on goes on with a steady state. -/
def State.ResultSteady (s : State) (r : Result) : Prop := ∀ t, r = .next t → s.Steady t

theorem State.Steady.next {s t : State} (h : s.Steady t) : s.ResultSteady (.next t) := fun u hu => by
  cases hu; exact h

namespace State

variable (s : State)

theorem resultSteady_refl : s.ResultSteady (.next s) := (Steady.refl s).next

theorem execRestartInput_steady : s.ResultSteady (execRestartInput s) := by
  unfold execRestartInput
  split
  · exact s.resultSteady_refl
  · split
    · exact Steady.next ⟨rfl, id⟩
    · exact Steady.next ⟨s.warmRestart_pending, wf_warmRestart⟩

theorem execDisturbance_steady (frame offset : Nat) (f : Cell → Cell) :
    s.ResultSteady (if isStoreWord frame offset then .next (s.disturb frame offset f)
      else .fault (.noStoreWord frame offset)) := by
  split
  · exact Steady.next ⟨s.sweepOn_pending, fun h => wf_disturb h frame offset f⟩
  · intro t ht; cases ht

theorem execHostFrameCutOff_steady : s.ResultSteady (execHostFrameCutOff s) := by
  unfold execHostFrameCutOff
  split
  · exact s.resultSteady_refl
  · exact (((s.imageKept_setHostRx []).trans (imageKept_badFrame _)).steady (badFrame_pending _)).next

theorem execReplyEnd_steady : s.ResultSteady (execReplyEnd s) := by
  unfold execReplyEnd
  split
  · exact s.resultSteady_refl
  · split
    · exact Steady.next ⟨s.replyEnded_pending, wf_replyEnded⟩
    · exact Steady.next ⟨rfl, id⟩
    · exact Steady.next ⟨rfl, id⟩

theorem execOpenMappingEnd_steady : s.ResultSteady (execOpenMappingEnd s) := by
  unfold execOpenMappingEnd
  split
  · exact Steady.next ⟨s.mappingEnded_pending _, fun h => wf_mappingEnded h _⟩
  · exact s.resultSteady_refl
  · exact s.resultSteady_refl

theorem execOpenColdZeroFillWrite_steady (page : Nat) : s.ResultSteady (execOpenColdZeroFillWrite page s) := by
  unfold execOpenColdZeroFillWrite
  split
  · split
    · rename_i p offset _
      exact Steady.next ⟨s.writeWord_pending page offset 0, fun h => wf_writeWord h page offset 0⟩
    · exact s.resultSteady_refl
  · exact s.resultSteady_refl
  · exact s.resultSteady_refl

theorem execOpenColdCompletion_steady : s.ResultSteady (execOpenColdCompletion s) := by
  unfold execOpenColdCompletion
  split
  · exact Steady.next ⟨s.coldOpened_pending _, fun h => wf_coldOpened h _⟩
  all_goals exact s.resultSteady_refl

theorem execHostReadWord_steady : s.ResultSteady (execHostReadWord s) := by
  unfold execHostReadWord
  split
  · exact ((s.imageKept_readOne _ _ _).steady (s.readOne_pending _ _ _)).next
  all_goals exact s.resultSteady_refl

theorem execHostWriteWord_steady : s.ResultSteady (execHostWriteWord s) := by
  unfold execHostWriteWord
  split
  · exact Steady.next ⟨s.writeOne_pending _ _ _ _, fun h => wf_writeOne h _ _ _ _⟩
  all_goals exact s.resultSteady_refl

theorem execGateRead_steady : s.ResultSteady (execGateRead s) := by
  unfold execGateRead
  split
  · exact Steady.next ⟨s.readGate_pending _ _ _, fun h => wf_readGate h _ _ _⟩
  all_goals exact s.resultSteady_refl

theorem execLockAdvance_steady : s.ResultSteady (execLockAdvance s) := by
  unfold execLockAdvance
  split
  · exact Steady.next ⟨s.endAdvance_pending _, fun h => wf_endAdvance h _⟩
  all_goals exact s.resultSteady_refl

theorem execMoveTake_steady : s.ResultSteady (execMoveTake s) := by
  unfold execMoveTake
  split
  · split
    · exact Steady.next ⟨s.takeMove_pending _ _, fun h => wf_takeMove h _ _⟩
    · exact s.resultSteady_refl
  · exact s.resultSteady_refl

theorem execMoveStep_steady : s.ResultSteady (execMoveStep s) := by
  unfold execMoveStep
  split
  · split
    · exact Steady.next ⟨s.stepMove_pending _, fun h => wf_stepMove h _⟩
    · exact s.resultSteady_refl
  · exact s.resultSteady_refl

theorem execWindowExpiry_steady : s.ResultSteady (execWindowExpiry s) := by
  unfold execWindowExpiry
  split
  · exact (((s.imageKept_passTo _).trans (imageKept_decideVote _)).steady (decideVote_pending _)).next
  · exact s.resultSteady_refl

theorem execDeadlineExpiry_steady : s.ResultSteady (execDeadlineExpiry s) := by
  unfold execDeadlineExpiry
  split
  · exact (((s.imageKept_passTo _).trans (imageKept_stopRequest _ _ _)).steady (stopRequest_pending _ _ _)).next
  · exact s.resultSteady_refl

theorem execHalfPeriodExpiry_steady : s.ResultSteady (execHalfPeriodExpiry s) := by
  unfold execHalfPeriodExpiry
  split
  · exact Steady.next ⟨rfl, id⟩
  · exact s.resultSteady_refl

theorem execLinkFrameCheck_steady (port : LinkPort) (words : List Word) :
    s.ResultSteady (execLinkFrameCheck port words s) := by
  unfold execLinkFrameCheck
  split
  · exact s.resultSteady_refl
  · exact Steady.next ⟨foldl_pending (fun t => t) (fun t w => t.receiveWord_pending port w) words s,
      wf_foldl (fun t => t) (fun _ w ht => wf_receiveWord ht port w) words s⟩

theorem execLinkReceiveCutOff_steady (port : LinkPort) : s.ResultSteady (execLinkReceiveCutOff port s) := by
  unfold execLinkReceiveCutOff
  split
  · exact s.resultSteady_refl
  · exact (((s.imageKept_setLink _ _).trans (imageKept_checkFail _ _)).steady (by simp)).next

theorem execSilenceTimerExpiry_steady : s.ResultSteady (execSilenceTimerExpiry s) := by
  unfold execSilenceTimerExpiry
  split
  · exact (((s.imageKept_passTo _).trans (imageKept_failAttempt _ _ _)).steady (failAttempt_pending _ _ _)).next
  · exact s.resultSteady_refl

theorem execTransmitEnd_steady (port : LinkPort) : s.ResultSteady (execTransmitEnd port s) := by
  unfold execTransmitEnd
  split
  · exact ((s.imageKept_transmitEnded _).steady (s.transmitEnded_pending _)).next
  · exact s.resultSteady_refl

theorem execIdleFill_steady (port : LinkPort) : s.ResultSteady (execIdleFill port s) := by
  unfold execIdleFill
  split
  · exact (((s.imageKept_passTo _).trans (imageKept_setLink _ _ _)).steady (setLink_pending _ _ _)).next
  · exact s.resultSteady_refl

theorem execLinkTimeout_steady (port : LinkPort) : s.ResultSteady (execLinkTimeout port s) := by
  unfold execLinkTimeout
  split
  · exact (((s.imageKept_passTo _).trans (imageKept_linkDown _ _)).steady (linkDown_pending _ _)).next
  · exact s.resultSteady_refl

/-- A request row is steady if the event of its block is (log 3). -/
theorem request_steady (c : Instr) {own : State → State} (hown : ∀ t : State, t.Steady (own t)) :
    s.ResultSteady (.next (s.request c own)) :=
  Steady.next ⟨s.request_pending c fun t => (hown t).queue, fun h => wf_request h c fun t => (hown t).form⟩

/-- Every command leaves the queue and keeps the form, if it goes on. -/
theorem exec_steady (i : Instr) : s.ResultSteady (exec i s) := by
  cases i with
  | powerOn => exact Steady.next ⟨rfl, fun _ => Memory.wf_nil⟩
  | startUpSweepEnd => exact Steady.next ⟨s.sweepEnded_pending, wf_sweepEnded⟩
  | restartInput => exact s.execRestartInput_steady
  | oneBitDisturbance frame offset => exact s.execDisturbance_steady frame offset Cell.disturb
  | silentDisturbance frame offset value => exact s.execDisturbance_steady frame offset fun c => c.silent value
  | hostFrameCheck bytes =>
    exact ((imageKept_foldl imageKept_receiveByte bytes s).steady
      (foldl_pending (fun t => t) receiveByte_pending bytes s)).next
  | hostFrameCutOff => exact s.execHostFrameCutOff_steady
  | replyEnd => exact s.execReplyEnd_steady
  | status tag => exact s.request_steady _ fun t => (t.imageKept_reply _ _).steady (t.reply_pending _ _)
  | configLane tag values =>
    exact s.request_steady _ fun t => (t.imageKept_configLaneEvent values).steady (t.configLaneEvent_pending values)
  | configRegion tag id first count code seed =>
    exact s.request_steady _ fun t => ⟨t.configRegionEvent_pending id first count code seed,
      fun h => wf_configRegionEvent h id first count code seed⟩
  | configRegionClear tag id =>
    exact s.request_steady _ fun t => ⟨t.configRegionClearEvent_pending id, fun h => wf_configRegionClearEvent h id⟩
  | openCold tag => exact s.request_steady _ fun t => ⟨t.openColdEvent_pending, wf_openColdEvent⟩
  | openJoin tag => exact s.request_steady _ fun t => ⟨t.openJoinEvent_pending, wf_openJoinEvent⟩
  | openMappingEnd => exact s.execOpenMappingEnd_steady
  | openColdZeroFillWrite page => exact s.execOpenColdZeroFillWrite_steady page
  | openColdCompletion => exact s.execOpenColdCompletion_steady
  | stop tag => exact s.request_steady _ fun t => t.imageKept_stopEvent.steady t.stopEvent_pending
  | read tag address count =>
    exact s.request_steady _ fun t => (t.imageKept_readEvent address count).steady (t.readEvent_pending address count)
  | hostReadWord => exact s.execHostReadWord_steady
  | write tag address count words =>
    exact s.request_steady _ fun t =>
      (t.imageKept_writeEvent address count words).steady (t.writeEvent_pending address count words)
  | hostWriteWord => exact s.execHostWriteWord_steady
  | fill tag page value =>
    exact s.request_steady _ fun t => ⟨t.fillEvent_pending page value, fun h => wf_fillEvent h page value⟩
  | adopt tag region => exact s.request_steady _ fun t => ⟨t.adoptEvent_pending region, fun h => wf_adoptEvent h region⟩
  | cycleClose tag cycle =>
    exact s.request_steady _ fun t => (t.imageKept_closeEvent cycle).steady (t.closeEvent_pending cycle)
  | gateRead => exact s.execGateRead_steady
  | lockAdvance => exact s.execLockAdvance_steady
  | lockArm tag index code gate preset =>
    exact s.request_steady _ fun t =>
      (t.imageKept_lockArmEvent index code gate preset).steady (t.lockArmEvent_pending index code gate preset)
  | lockCancel tag index =>
    exact s.request_steady _ fun t => (t.imageKept_lockCancelEvent index).steady (t.lockCancelEvent_pending index)
  | lockRead tag first count =>
    exact s.request_steady _ fun t => (t.imageKept_lockReadEvent first count).steady (t.lockReadEvent_pending first count)
  | take tag => exact s.request_steady _ fun t => t.imageKept_takeEvent.steady t.takeEvent_pending
  | doneClass tag cls =>
    exact s.request_steady _ fun t => (t.imageKept_doneClassEvent cls).steady (t.doneClassEvent_pending cls)
  | doneNoClass tag => exact s.request_steady _ fun t => t.imageKept_doneNoClassEvent.steady t.doneNoClassEvent_pending
  | mask tag set =>
    exact s.request_steady _ fun t =>
      ((t.imageKept_attention _).trans (imageKept_reply _ _ _)).steady (reply_pending _ _ _)
  | priorityFixed tag =>
    exact s.request_steady _ fun t => (t.imageKept_priorityEvent false 7).steady (t.priorityEvent_pending false 7)
  | priorityRotating tag =>
    exact s.request_steady _ fun t => (t.imageKept_priorityEvent true _).steady (t.priorityEvent_pending true _)
  | prioritySetLowest tag cls =>
    exact s.request_steady _ fun t => (t.imageKept_setLowestEvent cls).steady (t.setLowestEvent_pending cls)
  | frames tag first count =>
    exact s.request_steady _ fun t => (t.imageKept_framesEvent first count).steady (t.framesEvent_pending first count)
  | poison tag => exact s.request_steady _ fun t => (t.imageKept_reply _ _).steady (t.reply_pending _ _)
  | restart tag => exact s.request_steady _ fun t => (t.imageKept_reply _ _).steady (t.reply_pending _ _)
  | patrolStep => exact (s.imageKept_patrolStep.steady s.patrolStep_pending).next
  | moveTake => exact s.execMoveTake_steady
  | moveStep => exact s.execMoveStep_steady
  | windowExpiry => exact s.execWindowExpiry_steady
  | deadlineExpiry => exact s.execDeadlineExpiry_steady
  | halfPeriodExpiry => exact s.execHalfPeriodExpiry_steady
  | linkFrameCheck port words => exact s.execLinkFrameCheck_steady port words
  | linkReceiveCutOff port => exact s.execLinkReceiveCutOff_steady port
  | silenceTimerExpiry => exact s.execSilenceTimerExpiry_steady
  | sendStep => exact (s.imageKept_sendStep.steady s.sendStep_pending).next
  | finalSendStep => exact (s.imageKept_finalSendStep.steady s.finalSendStep_pending).next
  | lockImageQueued => exact (s.imageKept_queueLockImage.steady s.queueLockImage_pending).next
  | syncMarkQueued => exact (s.imageKept_queueSyncMark.steady s.queueSyncMark_pending).next
  | transmitEnd port => exact s.execTransmitEnd_steady port
  | idleFill port => exact s.execIdleFill_steady port
  | linkTimeout port => exact s.execLinkTimeout_steady port

end State

/-- Settles O2: every command's meaning is made of operations that leave the queue. -/
theorem commandsKeepQueue : Obligations.CommandsKeepQueue := fun c s t h => (s.exec_steady c t h).queue

/-- Settles O55: the command taken keeps the form on the state with the rest of the queue, and an idle step leaves the
memory. -/
theorem memoryStaysCanonical : Obligations.MemoryStaysCanonical := by
  intro s t hwf hstep
  cases hqueue : s.pending with
  | nil =>
    rw [step_of_idle hqueue] at hstep
    cases hstep
    exact hwf
  | cons c rest =>
    rw [step_of_pending hqueue] at hstep
    exact (State.exec_steady { s with pending := rest } c t hstep).form hwf

end Sys2Proof.Machine
end
